-- ==== Sys2Proof/Word.lean ====
section
/-! DEFINITION. The two word types of the block and its plainest arithmetic (00_scope.md R6 and R7). -/

namespace Sys2Proof

/-- `DATA_WIDTH` = 8: a memory byte, an accumulator, an instruction byte (00_scope.md R6). -/
abbrev Byte := BitVec 8

/-- `ADDR_WIDTH` = 16: an address, X, SP, the program counter, the timer's counter (00_scope.md R6). -/
abbrev Word := BitVec 16

end Sys2Proof
end

