-- ==== Sys2Proof/Syntax.lean ====
section
/-! DEFINITION. The instructions: one constructor for each defined row of `spec/opcode_table.json`, its name the
mnemonic and the addressing mode, and `illegal` for the rows named ILLEGAL, which carries the row's byte. -/

namespace Sys2Proof

/-- The instructions of the opcode map (30_encoding.md R103), in the map's order. The operands are the fields of the
format, at the format's widths (R92 to R100): `ii` an 8-bit immediate, `jjkk` a 16-bit immediate, `dd` a direct
address, `ff` an unsigned offset from X, `hhll` an extended address, `rr` a signed displacement. -/
inductive Instr where
  /-- One of the opcode bytes that are no instruction (30_encoding.md R104, 44_system.md R283), with the byte. -/
  | illegal (op : Byte)
  /-- `01` NOP, R270. -/
  | nop
  /-- `04` LSRD, R229. -/
  | lsrd
  /-- `05` ASLD, R228. -/
  | asld
  /-- `06` TAP, R277. -/
  | tap
  /-- `07` TPA, R278. -/
  | tpa
  /-- `08` INX, R181. -/
  | inx
  /-- `09` DEX, R182. -/
  | dex
  /-- `0A` CLV, R273. -/
  | clv
  /-- `0B` SEV, R274. -/
  | sev
  /-- `0C` CLC, R271. -/
  | clc
  /-- `0D` SEC, R272. -/
  | sec
  /-- `0E` CLI, R275. -/
  | cli
  /-- `0F` SEI, R276. -/
  | sei
  /-- `10` SBA, R168. -/
  | sba
  /-- `11` CBA, R187. -/
  | cba
  /-- `16` TAB, R130. -/
  | tab
  /-- `17` TBA, R131. -/
  | tba
  /-- `18` XGDX, R134. -/
  | xgdx
  /-- `19` DAA, R171. -/
  | daa
  /-- `1A` SLP, R282. -/
  | slp
  /-- `1B` ABA, R161. -/
  | aba
  /-- `20` BRA rr, R242. -/
  | bra (rr : Byte)
  /-- `21` BRN rr, R243. -/
  | brn (rr : Byte)
  /-- `22` BHI rr, R244. -/
  | bhi (rr : Byte)
  /-- `23` BLS rr, R245. -/
  | bls (rr : Byte)
  /-- `24` BCC rr, R246. -/
  | bcc (rr : Byte)
  /-- `25` BCS rr, R247. -/
  | bcs (rr : Byte)
  /-- `26` BNE rr, R248. -/
  | bne (rr : Byte)
  /-- `27` BEQ rr, R249. -/
  | beq (rr : Byte)
  /-- `28` BVC rr, R250. -/
  | bvc (rr : Byte)
  /-- `29` BVS rr, R251. -/
  | bvs (rr : Byte)
  /-- `2A` BPL rr, R252. -/
  | bpl (rr : Byte)
  /-- `2B` BMI rr, R253. -/
  | bmi (rr : Byte)
  /-- `2C` BGE rr, R254. -/
  | bge (rr : Byte)
  /-- `2D` BLT rr, R255. -/
  | blt (rr : Byte)
  /-- `2E` BGT rr, R256. -/
  | bgt (rr : Byte)
  /-- `2F` BLE rr, R257. -/
  | ble (rr : Byte)
  /-- `30` TSX, R132. -/
  | tsx
  /-- `31` INS, R183. -/
  | ins
  /-- `32` PULA, R138. -/
  | pula
  /-- `33` PULB, R139. -/
  | pulb
  /-- `34` DES, R184. -/
  | des
  /-- `35` TXS, R133. -/
  | txs
  /-- `36` PSHA, R135. -/
  | psha
  /-- `37` PSHB, R136. -/
  | pshb
  /-- `38` PULX, R140. -/
  | pulx
  /-- `39` RTS, R261. -/
  | rts
  /-- `3A` ABX, R163. -/
  | abx
  /-- `3B` RTI, R280. -/
  | rti
  /-- `3C` PSHX, R137. -/
  | pshx
  /-- `3D` MUL, R170. -/
  | mul
  /-- `3E` WAI, R281. -/
  | wai
  /-- `3F` SWI, R279. -/
  | swi
  /-- `40` NEGA, R172. -/
  | nega
  /-- `43` COMA, R210. -/
  | coma
  /-- `44` LSRA, R219. -/
  | lsra
  /-- `46` RORA, R225. -/
  | rora
  /-- `47` ASRA, R216. -/
  | asra
  /-- `48` ASLA, R213. -/
  | asla
  /-- `49` ROLA, R222. -/
  | rola
  /-- `4A` DECA, R178. -/
  | deca
  /-- `4C` INCA, R175. -/
  | inca
  /-- `4D` TSTA, R189. -/
  | tsta
  /-- `4F` CLRA, R141. -/
  | clra
  /-- `50` NEGB, R173. -/
  | negb
  /-- `53` COMB, R211. -/
  | comb
  /-- `54` LSRB, R220. -/
  | lsrb
  /-- `56` RORB, R226. -/
  | rorb
  /-- `57` ASRB, R217. -/
  | asrb
  /-- `58` ASLB, R214. -/
  | aslb
  /-- `59` ROLB, R223. -/
  | rolb
  /-- `5A` DECB, R179. -/
  | decb
  /-- `5C` INCB, R176. -/
  | incb
  /-- `5D` TSTB, R190. -/
  | tstb
  /-- `5F` CLRB, R142. -/
  | clrb
  /-- `60` NEG ff,X, R174. -/
  | negIdx (ff : Byte)
  /-- `61` AIM #ii,ff,X, R230. -/
  | aimIdx (ii : Byte) (ff : Byte)
  /-- `62` OIM #ii,ff,X, R231. -/
  | oimIdx (ii : Byte) (ff : Byte)
  /-- `63` COM ff,X, R212. -/
  | comIdx (ff : Byte)
  /-- `64` LSR ff,X, R221. -/
  | lsrIdx (ff : Byte)
  /-- `65` EIM #ii,ff,X, R232. -/
  | eimIdx (ii : Byte) (ff : Byte)
  /-- `66` ROR ff,X, R227. -/
  | rorIdx (ff : Byte)
  /-- `67` ASR ff,X, R218. -/
  | asrIdx (ff : Byte)
  /-- `68` ASL ff,X, R215. -/
  | aslIdx (ff : Byte)
  /-- `69` ROL ff,X, R224. -/
  | rolIdx (ff : Byte)
  /-- `6A` DEC ff,X, R180. -/
  | decIdx (ff : Byte)
  /-- `6B` TIM #ii,ff,X, R233. -/
  | timIdx (ii : Byte) (ff : Byte)
  /-- `6C` INC ff,X, R177. -/
  | incIdx (ff : Byte)
  /-- `6D` TST ff,X, R191. -/
  | tstIdx (ff : Byte)
  /-- `6E` JMP ff,X, R259. -/
  | jmpIdx (ff : Byte)
  /-- `6F` CLR ff,X, R143. -/
  | clrIdx (ff : Byte)
  /-- `70` NEG hhll, R174. -/
  | negExt (hhll : Word)
  /-- `71` AIM #ii,dd, R230. -/
  | aimDir (ii : Byte) (dd : Byte)
  /-- `72` OIM #ii,dd, R231. -/
  | oimDir (ii : Byte) (dd : Byte)
  /-- `73` COM hhll, R212. -/
  | comExt (hhll : Word)
  /-- `74` LSR hhll, R221. -/
  | lsrExt (hhll : Word)
  /-- `75` EIM #ii,dd, R232. -/
  | eimDir (ii : Byte) (dd : Byte)
  /-- `76` ROR hhll, R227. -/
  | rorExt (hhll : Word)
  /-- `77` ASR hhll, R218. -/
  | asrExt (hhll : Word)
  /-- `78` ASL hhll, R215. -/
  | aslExt (hhll : Word)
  /-- `79` ROL hhll, R224. -/
  | rolExt (hhll : Word)
  /-- `7A` DEC hhll, R180. -/
  | decExt (hhll : Word)
  /-- `7B` TIM #ii,dd, R233. -/
  | timDir (ii : Byte) (dd : Byte)
  /-- `7C` INC hhll, R177. -/
  | incExt (hhll : Word)
  /-- `7D` TST hhll, R191. -/
  | tstExt (hhll : Word)
  /-- `7E` JMP hhll, R259. -/
  | jmpExt (hhll : Word)
  /-- `7F` CLR hhll, R143. -/
  | clrExt (hhll : Word)
  /-- `80` SUBA #ii, R164. -/
  | subaImm (ii : Byte)
  /-- `81` CMPA #ii, R185. -/
  | cmpaImm (ii : Byte)
  /-- `82` SBCA #ii, R166. -/
  | sbcaImm (ii : Byte)
  /-- `83` SUBD #jjkk, R169. -/
  | subdImm (jjkk : Word)
  /-- `84` ANDA #ii, R202. -/
  | andaImm (ii : Byte)
  /-- `85` BITA #ii, R208. -/
  | bitaImm (ii : Byte)
  /-- `86` LDAA #ii, R120. -/
  | ldaaImm (ii : Byte)
  /-- `88` EORA #ii, R206. -/
  | eoraImm (ii : Byte)
  /-- `89` ADCA #ii, R159. -/
  | adcaImm (ii : Byte)
  /-- `8A` ORAA #ii, R204. -/
  | oraaImm (ii : Byte)
  /-- `8B` ADDA #ii, R157. -/
  | addaImm (ii : Byte)
  /-- `8C` CPX #jjkk, R188. -/
  | cpxImm (jjkk : Word)
  /-- `8D` BSR rr, R258. -/
  | bsr (rr : Byte)
  /-- `8E` LDS #jjkk, R124. -/
  | ldsImm (jjkk : Word)
  /-- `90` SUBA dd, R164. -/
  | subaDir (dd : Byte)
  /-- `91` CMPA dd, R185. -/
  | cmpaDir (dd : Byte)
  /-- `92` SBCA dd, R166. -/
  | sbcaDir (dd : Byte)
  /-- `93` SUBD dd, R169. -/
  | subdDir (dd : Byte)
  /-- `94` ANDA dd, R202. -/
  | andaDir (dd : Byte)
  /-- `95` BITA dd, R208. -/
  | bitaDir (dd : Byte)
  /-- `96` LDAA dd, R120. -/
  | ldaaDir (dd : Byte)
  /-- `97` STAA dd, R125. -/
  | staaDir (dd : Byte)
  /-- `98` EORA dd, R206. -/
  | eoraDir (dd : Byte)
  /-- `99` ADCA dd, R159. -/
  | adcaDir (dd : Byte)
  /-- `9A` ORAA dd, R204. -/
  | oraaDir (dd : Byte)
  /-- `9B` ADDA dd, R157. -/
  | addaDir (dd : Byte)
  /-- `9C` CPX dd, R188. -/
  | cpxDir (dd : Byte)
  /-- `9D` JSR dd, R260. -/
  | jsrDir (dd : Byte)
  /-- `9E` LDS dd, R124. -/
  | ldsDir (dd : Byte)
  /-- `9F` STS dd, R129. -/
  | stsDir (dd : Byte)
  /-- `A0` SUBA ff,X, R164. -/
  | subaIdx (ff : Byte)
  /-- `A1` CMPA ff,X, R185. -/
  | cmpaIdx (ff : Byte)
  /-- `A2` SBCA ff,X, R166. -/
  | sbcaIdx (ff : Byte)
  /-- `A3` SUBD ff,X, R169. -/
  | subdIdx (ff : Byte)
  /-- `A4` ANDA ff,X, R202. -/
  | andaIdx (ff : Byte)
  /-- `A5` BITA ff,X, R208. -/
  | bitaIdx (ff : Byte)
  /-- `A6` LDAA ff,X, R120. -/
  | ldaaIdx (ff : Byte)
  /-- `A7` STAA ff,X, R125. -/
  | staaIdx (ff : Byte)
  /-- `A8` EORA ff,X, R206. -/
  | eoraIdx (ff : Byte)
  /-- `A9` ADCA ff,X, R159. -/
  | adcaIdx (ff : Byte)
  /-- `AA` ORAA ff,X, R204. -/
  | oraaIdx (ff : Byte)
  /-- `AB` ADDA ff,X, R157. -/
  | addaIdx (ff : Byte)
  /-- `AC` CPX ff,X, R188. -/
  | cpxIdx (ff : Byte)
  /-- `AD` JSR ff,X, R260. -/
  | jsrIdx (ff : Byte)
  /-- `AE` LDS ff,X, R124. -/
  | ldsIdx (ff : Byte)
  /-- `AF` STS ff,X, R129. -/
  | stsIdx (ff : Byte)
  /-- `B0` SUBA hhll, R164. -/
  | subaExt (hhll : Word)
  /-- `B1` CMPA hhll, R185. -/
  | cmpaExt (hhll : Word)
  /-- `B2` SBCA hhll, R166. -/
  | sbcaExt (hhll : Word)
  /-- `B3` SUBD hhll, R169. -/
  | subdExt (hhll : Word)
  /-- `B4` ANDA hhll, R202. -/
  | andaExt (hhll : Word)
  /-- `B5` BITA hhll, R208. -/
  | bitaExt (hhll : Word)
  /-- `B6` LDAA hhll, R120. -/
  | ldaaExt (hhll : Word)
  /-- `B7` STAA hhll, R125. -/
  | staaExt (hhll : Word)
  /-- `B8` EORA hhll, R206. -/
  | eoraExt (hhll : Word)
  /-- `B9` ADCA hhll, R159. -/
  | adcaExt (hhll : Word)
  /-- `BA` ORAA hhll, R204. -/
  | oraaExt (hhll : Word)
  /-- `BB` ADDA hhll, R157. -/
  | addaExt (hhll : Word)
  /-- `BC` CPX hhll, R188. -/
  | cpxExt (hhll : Word)
  /-- `BD` JSR hhll, R260. -/
  | jsrExt (hhll : Word)
  /-- `BE` LDS hhll, R124. -/
  | ldsExt (hhll : Word)
  /-- `BF` STS hhll, R129. -/
  | stsExt (hhll : Word)
  /-- `C0` SUBB #ii, R165. -/
  | subbImm (ii : Byte)
  /-- `C1` CMPB #ii, R186. -/
  | cmpbImm (ii : Byte)
  /-- `C2` SBCB #ii, R167. -/
  | sbcbImm (ii : Byte)
  /-- `C3` ADDD #jjkk, R162. -/
  | adddImm (jjkk : Word)
  /-- `C4` ANDB #ii, R203. -/
  | andbImm (ii : Byte)
  /-- `C5` BITB #ii, R209. -/
  | bitbImm (ii : Byte)
  /-- `C6` LDAB #ii, R121. -/
  | ldabImm (ii : Byte)
  /-- `C8` EORB #ii, R207. -/
  | eorbImm (ii : Byte)
  /-- `C9` ADCB #ii, R160. -/
  | adcbImm (ii : Byte)
  /-- `CA` ORAB #ii, R205. -/
  | orabImm (ii : Byte)
  /-- `CB` ADDB #ii, R158. -/
  | addbImm (ii : Byte)
  /-- `CC` LDD #jjkk, R122. -/
  | lddImm (jjkk : Word)
  /-- `CE` LDX #jjkk, R123. -/
  | ldxImm (jjkk : Word)
  /-- `D0` SUBB dd, R165. -/
  | subbDir (dd : Byte)
  /-- `D1` CMPB dd, R186. -/
  | cmpbDir (dd : Byte)
  /-- `D2` SBCB dd, R167. -/
  | sbcbDir (dd : Byte)
  /-- `D3` ADDD dd, R162. -/
  | adddDir (dd : Byte)
  /-- `D4` ANDB dd, R203. -/
  | andbDir (dd : Byte)
  /-- `D5` BITB dd, R209. -/
  | bitbDir (dd : Byte)
  /-- `D6` LDAB dd, R121. -/
  | ldabDir (dd : Byte)
  /-- `D7` STAB dd, R126. -/
  | stabDir (dd : Byte)
  /-- `D8` EORB dd, R207. -/
  | eorbDir (dd : Byte)
  /-- `D9` ADCB dd, R160. -/
  | adcbDir (dd : Byte)
  /-- `DA` ORAB dd, R205. -/
  | orabDir (dd : Byte)
  /-- `DB` ADDB dd, R158. -/
  | addbDir (dd : Byte)
  /-- `DC` LDD dd, R122. -/
  | lddDir (dd : Byte)
  /-- `DD` STD dd, R127. -/
  | stdDir (dd : Byte)
  /-- `DE` LDX dd, R123. -/
  | ldxDir (dd : Byte)
  /-- `DF` STX dd, R128. -/
  | stxDir (dd : Byte)
  /-- `E0` SUBB ff,X, R165. -/
  | subbIdx (ff : Byte)
  /-- `E1` CMPB ff,X, R186. -/
  | cmpbIdx (ff : Byte)
  /-- `E2` SBCB ff,X, R167. -/
  | sbcbIdx (ff : Byte)
  /-- `E3` ADDD ff,X, R162. -/
  | adddIdx (ff : Byte)
  /-- `E4` ANDB ff,X, R203. -/
  | andbIdx (ff : Byte)
  /-- `E5` BITB ff,X, R209. -/
  | bitbIdx (ff : Byte)
  /-- `E6` LDAB ff,X, R121. -/
  | ldabIdx (ff : Byte)
  /-- `E7` STAB ff,X, R126. -/
  | stabIdx (ff : Byte)
  /-- `E8` EORB ff,X, R207. -/
  | eorbIdx (ff : Byte)
  /-- `E9` ADCB ff,X, R160. -/
  | adcbIdx (ff : Byte)
  /-- `EA` ORAB ff,X, R205. -/
  | orabIdx (ff : Byte)
  /-- `EB` ADDB ff,X, R158. -/
  | addbIdx (ff : Byte)
  /-- `EC` LDD ff,X, R122. -/
  | lddIdx (ff : Byte)
  /-- `ED` STD ff,X, R127. -/
  | stdIdx (ff : Byte)
  /-- `EE` LDX ff,X, R123. -/
  | ldxIdx (ff : Byte)
  /-- `EF` STX ff,X, R128. -/
  | stxIdx (ff : Byte)
  /-- `F0` SUBB hhll, R165. -/
  | subbExt (hhll : Word)
  /-- `F1` CMPB hhll, R186. -/
  | cmpbExt (hhll : Word)
  /-- `F2` SBCB hhll, R167. -/
  | sbcbExt (hhll : Word)
  /-- `F3` ADDD hhll, R162. -/
  | adddExt (hhll : Word)
  /-- `F4` ANDB hhll, R203. -/
  | andbExt (hhll : Word)
  /-- `F5` BITB hhll, R209. -/
  | bitbExt (hhll : Word)
  /-- `F6` LDAB hhll, R121. -/
  | ldabExt (hhll : Word)
  /-- `F7` STAB hhll, R126. -/
  | stabExt (hhll : Word)
  /-- `F8` EORB hhll, R207. -/
  | eorbExt (hhll : Word)
  /-- `F9` ADCB hhll, R160. -/
  | adcbExt (hhll : Word)
  /-- `FA` ORAB hhll, R205. -/
  | orabExt (hhll : Word)
  /-- `FB` ADDB hhll, R158. -/
  | addbExt (hhll : Word)
  /-- `FC` LDD hhll, R122. -/
  | lddExt (hhll : Word)
  /-- `FD` STD hhll, R127. -/
  | stdExt (hhll : Word)
  /-- `FE` LDX hhll, R123. -/
  | ldxExt (hhll : Word)
  /-- `FF` STX hhll, R128. -/
  | stxExt (hhll : Word)
  deriving DecidableEq, Repr

end Sys2Proof
end

