-- ==== Sys2Proof/WellFormed.lean ====
section
/-! DEFINITION. Which instructions are well formed. Every operand field has exactly the width of its field in the
encoding, so the one check is that `illegal` carries one of the 26 bytes that are no instruction. -/

namespace Sys2Proof

/-- The 26 opcode bytes that are not instructions (30_encoding.md R104). -/
def illegalOpcodes : List Byte :=
  [0x00, 0x02, 0x03, 0x12, 0x13, 0x14, 0x15, 0x1C, 0x1D, 0x1E, 0x1F, 0x41, 0x42, 0x45, 0x4B, 0x4E,
    0x51, 0x52, 0x55, 0x5B, 0x5E, 0x87, 0x8F, 0xC7, 0xCD, 0xCF]

/-- An instruction that some bytes encode (30_encoding.md R90, R104). -/
def Instr.wellFormed : Instr → Bool
  | .illegal op => illegalOpcodes.contains op
  | .nop | .lsrd | .asld | .tap | .tpa | .inx | .dex | .clv | .sev | .clc | .sec | .cli | .sei | .sba | .cba | .tab
  | .tba | .xgdx | .daa | .slp | .aba | .bra _ | .brn _ | .bhi _ | .bls _ | .bcc _ | .bcs _ | .bne _ | .beq _
  | .bvc _ | .bvs _ | .bpl _ | .bmi _ | .bge _ | .blt _ | .bgt _ | .ble _ | .tsx | .ins | .pula | .pulb | .des
  | .txs | .psha | .pshb | .pulx | .rts | .abx | .rti | .pshx | .mul | .wai | .swi | .nega | .coma | .lsra | .rora
  | .asra | .asla | .rola | .deca | .inca | .tsta | .clra | .negb | .comb | .lsrb | .rorb | .asrb | .aslb | .rolb
  | .decb | .incb | .tstb | .clrb | .negIdx _ | .aimIdx _ _ | .oimIdx _ _ | .comIdx _ | .lsrIdx _ | .eimIdx _ _
  | .rorIdx _ | .asrIdx _ | .aslIdx _ | .rolIdx _ | .decIdx _ | .timIdx _ _ | .incIdx _ | .tstIdx _ | .jmpIdx _
  | .clrIdx _ | .negExt _ | .aimDir _ _ | .oimDir _ _ | .comExt _ | .lsrExt _ | .eimDir _ _ | .rorExt _ | .asrExt _
  | .aslExt _ | .rolExt _ | .decExt _ | .timDir _ _ | .incExt _ | .tstExt _ | .jmpExt _ | .clrExt _ | .subaImm _
  | .cmpaImm _ | .sbcaImm _ | .subdImm _ | .andaImm _ | .bitaImm _ | .ldaaImm _ | .eoraImm _ | .adcaImm _
  | .oraaImm _ | .addaImm _ | .cpxImm _ | .bsr _ | .ldsImm _ | .subaDir _ | .cmpaDir _ | .sbcaDir _ | .subdDir _
  | .andaDir _ | .bitaDir _ | .ldaaDir _ | .staaDir _ | .eoraDir _ | .adcaDir _ | .oraaDir _ | .addaDir _
  | .cpxDir _ | .jsrDir _ | .ldsDir _ | .stsDir _ | .subaIdx _ | .cmpaIdx _ | .sbcaIdx _ | .subdIdx _ | .andaIdx _
  | .bitaIdx _ | .ldaaIdx _ | .staaIdx _ | .eoraIdx _ | .adcaIdx _ | .oraaIdx _ | .addaIdx _ | .cpxIdx _
  | .jsrIdx _ | .ldsIdx _ | .stsIdx _ | .subaExt _ | .cmpaExt _ | .sbcaExt _ | .subdExt _ | .andaExt _ | .bitaExt _
  | .ldaaExt _ | .staaExt _ | .eoraExt _ | .adcaExt _ | .oraaExt _ | .addaExt _ | .cpxExt _ | .jsrExt _ | .ldsExt _
  | .stsExt _ | .subbImm _ | .cmpbImm _ | .sbcbImm _ | .adddImm _ | .andbImm _ | .bitbImm _ | .ldabImm _
  | .eorbImm _ | .adcbImm _ | .orabImm _ | .addbImm _ | .lddImm _ | .ldxImm _ | .subbDir _ | .cmpbDir _
  | .sbcbDir _ | .adddDir _ | .andbDir _ | .bitbDir _ | .ldabDir _ | .stabDir _ | .eorbDir _ | .adcbDir _
  | .orabDir _ | .addbDir _ | .lddDir _ | .stdDir _ | .ldxDir _ | .stxDir _ | .subbIdx _ | .cmpbIdx _ | .sbcbIdx _
  | .adddIdx _ | .andbIdx _ | .bitbIdx _ | .ldabIdx _ | .stabIdx _ | .eorbIdx _ | .adcbIdx _ | .orabIdx _
  | .addbIdx _ | .lddIdx _ | .stdIdx _ | .ldxIdx _ | .stxIdx _ | .subbExt _ | .cmpbExt _ | .sbcbExt _ | .adddExt _
  | .andbExt _ | .bitbExt _ | .ldabExt _ | .stabExt _ | .eorbExt _ | .adcbExt _ | .orabExt _ | .addbExt _
  | .lddExt _ | .stdExt _ | .ldxExt _ | .stxExt _ => true

end Sys2Proof
end

