-- ==== Sys2Proof/Decode.lean ====
section
/-! DEFINITION. The decoder, total on any bytes, under any instruction table and under the default one, the opcode map; the
encoder, from the encodings; and the reading of a row of `spec/opcode_table.json` as the bytes the block fetches. -/

namespace Sys2Proof

/-- What the opcode byte alone settles (30_encoding.md R90): no instruction, or how the operand bytes, at ascending
addresses, make one (R91). -/
inductive OpcodeEntry where
  /-- An illegal byte (R104): no operand byte is fetched. -/
  | ill
  /-- Format INH (R92). -/
  | inh (i : Instr)
  /-- One operand byte: formats IMM8, DIR, IDX, REL (R93, R95, R96, R98). -/
  | byte (mk : Byte → Instr)
  /-- One operand word, its most significant byte first: formats IMM16, EXT (R94, R97). -/
  | word (mk : Word → Instr)
  /-- An immediate byte, then an address byte: formats IMD, IMX (R99, R100). -/
  | bytes2 (mk : Byte → Byte → Instr)

/-- `ISA_TABLE`, total on the 256 opcode bytes: an OPEN parameter, which the decoder and the step take as an argument
(00_scope.md R6, 92_eei_decisions.md section 2; log 25). -/
abbrev IsaTable := Byte → OpcodeEntry

/-- The byte is illegal. -/
def OpcodeEntry.isIllegal : OpcodeEntry → Bool
  | .ill => true
  | .inh _ => false
  | .byte _ => false
  | .word _ => false
  | .bytes2 _ => false

/-- How many operand bytes follow an opcode byte with this entry: a function of that byte alone (30_encoding.md R90). -/
def OpcodeEntry.operandCount : OpcodeEntry → Nat
  | .ill => 0
  | .inh _ => 0
  | .byte _ => 1
  | .word _ => 2
  | .bytes2 _ => 2

/-- The instruction of the opcode byte `op` with this entry and the operand bytes it has; a byte the format does not have is
not looked at (30_encoding.md R91, R102). -/
def OpcodeEntry.instr (e : OpcodeEntry) (op b1 b2 : Byte) : Instr :=
  match e with
  | .ill => .illegal op
  | .inh i => i
  | .byte mk => mk b1
  | .word mk => mk (b1 ++ b2)
  | .bytes2 mk => mk b1 b2

/-- Row $0 of the opcode map (30_encoding.md R103). -/
def opcodeRow0 : List OpcodeEntry :=
  [
    .ill, .inh .nop, .ill, .ill,
    .inh .lsrd, .inh .asld, .inh .tap, .inh .tpa,
    .inh .inx, .inh .dex, .inh .clv, .inh .sev,
    .inh .clc, .inh .sec, .inh .cli, .inh .sei ]

/-- Row $1 of the opcode map (30_encoding.md R103). -/
def opcodeRow1 : List OpcodeEntry :=
  [
    .inh .sba, .inh .cba, .ill, .ill,
    .ill, .ill, .inh .tab, .inh .tba,
    .inh .xgdx, .inh .daa, .inh .slp, .inh .aba,
    .ill, .ill, .ill, .ill ]

/-- Row $2 of the opcode map (30_encoding.md R103). -/
def opcodeRow2 : List OpcodeEntry :=
  [
    .byte .bra, .byte .brn, .byte .bhi, .byte .bls,
    .byte .bcc, .byte .bcs, .byte .bne, .byte .beq,
    .byte .bvc, .byte .bvs, .byte .bpl, .byte .bmi,
    .byte .bge, .byte .blt, .byte .bgt, .byte .ble ]

/-- Row $3 of the opcode map (30_encoding.md R103). -/
def opcodeRow3 : List OpcodeEntry :=
  [
    .inh .tsx, .inh .ins, .inh .pula, .inh .pulb,
    .inh .des, .inh .txs, .inh .psha, .inh .pshb,
    .inh .pulx, .inh .rts, .inh .abx, .inh .rti,
    .inh .pshx, .inh .mul, .inh .wai, .inh .swi ]

/-- Row $4 of the opcode map (30_encoding.md R103). -/
def opcodeRow4 : List OpcodeEntry :=
  [
    .inh .nega, .ill, .ill, .inh .coma,
    .inh .lsra, .ill, .inh .rora, .inh .asra,
    .inh .asla, .inh .rola, .inh .deca, .ill,
    .inh .inca, .inh .tsta, .ill, .inh .clra ]

/-- Row $5 of the opcode map (30_encoding.md R103). -/
def opcodeRow5 : List OpcodeEntry :=
  [
    .inh .negb, .ill, .ill, .inh .comb,
    .inh .lsrb, .ill, .inh .rorb, .inh .asrb,
    .inh .aslb, .inh .rolb, .inh .decb, .ill,
    .inh .incb, .inh .tstb, .ill, .inh .clrb ]

/-- Row $6 of the opcode map (30_encoding.md R103). -/
def opcodeRow6 : List OpcodeEntry :=
  [
    .byte .negIdx, .bytes2 .aimIdx, .bytes2 .oimIdx, .byte .comIdx,
    .byte .lsrIdx, .bytes2 .eimIdx, .byte .rorIdx, .byte .asrIdx,
    .byte .aslIdx, .byte .rolIdx, .byte .decIdx, .bytes2 .timIdx,
    .byte .incIdx, .byte .tstIdx, .byte .jmpIdx, .byte .clrIdx ]

/-- Row $7 of the opcode map (30_encoding.md R103). -/
def opcodeRow7 : List OpcodeEntry :=
  [
    .word .negExt, .bytes2 .aimDir, .bytes2 .oimDir, .word .comExt,
    .word .lsrExt, .bytes2 .eimDir, .word .rorExt, .word .asrExt,
    .word .aslExt, .word .rolExt, .word .decExt, .bytes2 .timDir,
    .word .incExt, .word .tstExt, .word .jmpExt, .word .clrExt ]

/-- Row $8 of the opcode map (30_encoding.md R103). -/
def opcodeRow8 : List OpcodeEntry :=
  [
    .byte .subaImm, .byte .cmpaImm, .byte .sbcaImm, .word .subdImm,
    .byte .andaImm, .byte .bitaImm, .byte .ldaaImm, .ill,
    .byte .eoraImm, .byte .adcaImm, .byte .oraaImm, .byte .addaImm,
    .word .cpxImm, .byte .bsr, .word .ldsImm, .ill ]

/-- Row $9 of the opcode map (30_encoding.md R103). -/
def opcodeRow9 : List OpcodeEntry :=
  [
    .byte .subaDir, .byte .cmpaDir, .byte .sbcaDir, .byte .subdDir,
    .byte .andaDir, .byte .bitaDir, .byte .ldaaDir, .byte .staaDir,
    .byte .eoraDir, .byte .adcaDir, .byte .oraaDir, .byte .addaDir,
    .byte .cpxDir, .byte .jsrDir, .byte .ldsDir, .byte .stsDir ]

/-- Row $A of the opcode map (30_encoding.md R103). -/
def opcodeRowA : List OpcodeEntry :=
  [
    .byte .subaIdx, .byte .cmpaIdx, .byte .sbcaIdx, .byte .subdIdx,
    .byte .andaIdx, .byte .bitaIdx, .byte .ldaaIdx, .byte .staaIdx,
    .byte .eoraIdx, .byte .adcaIdx, .byte .oraaIdx, .byte .addaIdx,
    .byte .cpxIdx, .byte .jsrIdx, .byte .ldsIdx, .byte .stsIdx ]

/-- Row $B of the opcode map (30_encoding.md R103). -/
def opcodeRowB : List OpcodeEntry :=
  [
    .word .subaExt, .word .cmpaExt, .word .sbcaExt, .word .subdExt,
    .word .andaExt, .word .bitaExt, .word .ldaaExt, .word .staaExt,
    .word .eoraExt, .word .adcaExt, .word .oraaExt, .word .addaExt,
    .word .cpxExt, .word .jsrExt, .word .ldsExt, .word .stsExt ]

/-- Row $C of the opcode map (30_encoding.md R103). -/
def opcodeRowC : List OpcodeEntry :=
  [
    .byte .subbImm, .byte .cmpbImm, .byte .sbcbImm, .word .adddImm,
    .byte .andbImm, .byte .bitbImm, .byte .ldabImm, .ill,
    .byte .eorbImm, .byte .adcbImm, .byte .orabImm, .byte .addbImm,
    .word .lddImm, .ill, .word .ldxImm, .ill ]

/-- Row $D of the opcode map (30_encoding.md R103). -/
def opcodeRowD : List OpcodeEntry :=
  [
    .byte .subbDir, .byte .cmpbDir, .byte .sbcbDir, .byte .adddDir,
    .byte .andbDir, .byte .bitbDir, .byte .ldabDir, .byte .stabDir,
    .byte .eorbDir, .byte .adcbDir, .byte .orabDir, .byte .addbDir,
    .byte .lddDir, .byte .stdDir, .byte .ldxDir, .byte .stxDir ]

/-- Row $E of the opcode map (30_encoding.md R103). -/
def opcodeRowE : List OpcodeEntry :=
  [
    .byte .subbIdx, .byte .cmpbIdx, .byte .sbcbIdx, .byte .adddIdx,
    .byte .andbIdx, .byte .bitbIdx, .byte .ldabIdx, .byte .stabIdx,
    .byte .eorbIdx, .byte .adcbIdx, .byte .orabIdx, .byte .addbIdx,
    .byte .lddIdx, .byte .stdIdx, .byte .ldxIdx, .byte .stxIdx ]

/-- Row $F of the opcode map (30_encoding.md R103). -/
def opcodeRowF : List OpcodeEntry :=
  [
    .word .subbExt, .word .cmpbExt, .word .sbcbExt, .word .adddExt,
    .word .andbExt, .word .bitbExt, .word .ldabExt, .word .stabExt,
    .word .eorbExt, .word .adcbExt, .word .orabExt, .word .addbExt,
    .word .lddExt, .word .stdExt, .word .ldxExt, .word .stxExt ]

/-- The opcode map: sixteen rows of sixteen entries; the high digit of the opcode byte selects the row, the low digit the
entry (30_encoding.md R103). It is the default of `ISA_TABLE`, from the spec's general knowledge (decision D1), and the model's
choice wherever no table is an argument: in `decode`, `encode`, `decodeTableWord` and `step` (log 25). -/
def opcodeMap : List (List OpcodeEntry) :=
  [
    opcodeRow0, opcodeRow1, opcodeRow2, opcodeRow3, opcodeRow4, opcodeRow5, opcodeRow6, opcodeRow7,
    opcodeRow8, opcodeRow9, opcodeRowA, opcodeRowB, opcodeRowC, opcodeRowD, opcodeRowE, opcodeRowF ]

/-- The entry of an opcode byte in the default table (log 25). -/
def opcodeEntry (op : Byte) : OpcodeEntry :=
  (opcodeMap.getD (op.toNat / 16) []).getD (op.toNat % 16) .ill

/-- A table that can stand for `ISA_TABLE`: each byte has one of the rows that the rules of 40_load_store_transfer.md to
44_system.md give a meaning, each row an entry of the default table, or is illegal (92_eei_decisions.md section 2; log 25). -/
def IsaTable.Valid (t : IsaTable) : Prop :=
  ∀ op : Byte, ∃ row : Byte, t op = opcodeEntry row

/-- How many operand bytes follow an opcode byte under the default table. -/
def operandCount (op : Byte) : Nat :=
  (opcodeEntry op).operandCount

/-- The instruction of an opcode byte and its operand bytes under the default table. -/
def instrOf (op b1 b2 : Byte) : Instr :=
  (opcodeEntry op).instr op b1 b2

/-- Why bytes are no instruction. -/
inductive DecodeError where
  /-- There is no opcode byte. -/
  | empty
  /-- The operand bytes of the opcode `op` are not all there. -/
  | truncated (op : Byte)
  deriving DecidableEq, Repr

/-- The instruction at the front of some bytes under a table, and the bytes after it. Total: each of the 256 opcode bytes is a
defined instruction or illegal (30_encoding.md R102). -/
def decodeWith (t : IsaTable) : List Byte → Except DecodeError (Instr × List Byte)
  | [] => .error .empty
  | op :: rest =>
    if rest.length < (t op).operandCount then .error (.truncated op)
    else .ok ((t op).instr op (rest.getD 0 0) (rest.getD 1 0), rest.drop (t op).operandCount)

/-- The instruction at the front of some bytes under the default table, and the bytes after it (30_encoding.md R102, R103). -/
def decode (bytes : List Byte) : Except DecodeError (Instr × List Byte) :=
  decodeWith opcodeEntry bytes

/-- The opcode byte of an instruction, from the Encoding line of its rule (40_load_store_transfer.md to 44_system.md). -/
def Instr.opcode : Instr → Byte
  | .illegal op => op
  | .nop => 0x01#8
  | .lsrd => 0x04#8
  | .asld => 0x05#8
  | .tap => 0x06#8
  | .tpa => 0x07#8
  | .inx => 0x08#8
  | .dex => 0x09#8
  | .clv => 0x0A#8
  | .sev => 0x0B#8
  | .clc => 0x0C#8
  | .sec => 0x0D#8
  | .cli => 0x0E#8
  | .sei => 0x0F#8
  | .sba => 0x10#8
  | .cba => 0x11#8
  | .tab => 0x16#8
  | .tba => 0x17#8
  | .xgdx => 0x18#8
  | .daa => 0x19#8
  | .slp => 0x1A#8
  | .aba => 0x1B#8
  | .bra _ => 0x20#8
  | .brn _ => 0x21#8
  | .bhi _ => 0x22#8
  | .bls _ => 0x23#8
  | .bcc _ => 0x24#8
  | .bcs _ => 0x25#8
  | .bne _ => 0x26#8
  | .beq _ => 0x27#8
  | .bvc _ => 0x28#8
  | .bvs _ => 0x29#8
  | .bpl _ => 0x2A#8
  | .bmi _ => 0x2B#8
  | .bge _ => 0x2C#8
  | .blt _ => 0x2D#8
  | .bgt _ => 0x2E#8
  | .ble _ => 0x2F#8
  | .tsx => 0x30#8
  | .ins => 0x31#8
  | .pula => 0x32#8
  | .pulb => 0x33#8
  | .des => 0x34#8
  | .txs => 0x35#8
  | .psha => 0x36#8
  | .pshb => 0x37#8
  | .pulx => 0x38#8
  | .rts => 0x39#8
  | .abx => 0x3A#8
  | .rti => 0x3B#8
  | .pshx => 0x3C#8
  | .mul => 0x3D#8
  | .wai => 0x3E#8
  | .swi => 0x3F#8
  | .nega => 0x40#8
  | .coma => 0x43#8
  | .lsra => 0x44#8
  | .rora => 0x46#8
  | .asra => 0x47#8
  | .asla => 0x48#8
  | .rola => 0x49#8
  | .deca => 0x4A#8
  | .inca => 0x4C#8
  | .tsta => 0x4D#8
  | .clra => 0x4F#8
  | .negb => 0x50#8
  | .comb => 0x53#8
  | .lsrb => 0x54#8
  | .rorb => 0x56#8
  | .asrb => 0x57#8
  | .aslb => 0x58#8
  | .rolb => 0x59#8
  | .decb => 0x5A#8
  | .incb => 0x5C#8
  | .tstb => 0x5D#8
  | .clrb => 0x5F#8
  | .negIdx _ => 0x60#8
  | .aimIdx _ _ => 0x61#8
  | .oimIdx _ _ => 0x62#8
  | .comIdx _ => 0x63#8
  | .lsrIdx _ => 0x64#8
  | .eimIdx _ _ => 0x65#8
  | .rorIdx _ => 0x66#8
  | .asrIdx _ => 0x67#8
  | .aslIdx _ => 0x68#8
  | .rolIdx _ => 0x69#8
  | .decIdx _ => 0x6A#8
  | .timIdx _ _ => 0x6B#8
  | .incIdx _ => 0x6C#8
  | .tstIdx _ => 0x6D#8
  | .jmpIdx _ => 0x6E#8
  | .clrIdx _ => 0x6F#8
  | .negExt _ => 0x70#8
  | .aimDir _ _ => 0x71#8
  | .oimDir _ _ => 0x72#8
  | .comExt _ => 0x73#8
  | .lsrExt _ => 0x74#8
  | .eimDir _ _ => 0x75#8
  | .rorExt _ => 0x76#8
  | .asrExt _ => 0x77#8
  | .aslExt _ => 0x78#8
  | .rolExt _ => 0x79#8
  | .decExt _ => 0x7A#8
  | .timDir _ _ => 0x7B#8
  | .incExt _ => 0x7C#8
  | .tstExt _ => 0x7D#8
  | .jmpExt _ => 0x7E#8
  | .clrExt _ => 0x7F#8
  | .subaImm _ => 0x80#8
  | .cmpaImm _ => 0x81#8
  | .sbcaImm _ => 0x82#8
  | .subdImm _ => 0x83#8
  | .andaImm _ => 0x84#8
  | .bitaImm _ => 0x85#8
  | .ldaaImm _ => 0x86#8
  | .eoraImm _ => 0x88#8
  | .adcaImm _ => 0x89#8
  | .oraaImm _ => 0x8A#8
  | .addaImm _ => 0x8B#8
  | .cpxImm _ => 0x8C#8
  | .bsr _ => 0x8D#8
  | .ldsImm _ => 0x8E#8
  | .subaDir _ => 0x90#8
  | .cmpaDir _ => 0x91#8
  | .sbcaDir _ => 0x92#8
  | .subdDir _ => 0x93#8
  | .andaDir _ => 0x94#8
  | .bitaDir _ => 0x95#8
  | .ldaaDir _ => 0x96#8
  | .staaDir _ => 0x97#8
  | .eoraDir _ => 0x98#8
  | .adcaDir _ => 0x99#8
  | .oraaDir _ => 0x9A#8
  | .addaDir _ => 0x9B#8
  | .cpxDir _ => 0x9C#8
  | .jsrDir _ => 0x9D#8
  | .ldsDir _ => 0x9E#8
  | .stsDir _ => 0x9F#8
  | .subaIdx _ => 0xA0#8
  | .cmpaIdx _ => 0xA1#8
  | .sbcaIdx _ => 0xA2#8
  | .subdIdx _ => 0xA3#8
  | .andaIdx _ => 0xA4#8
  | .bitaIdx _ => 0xA5#8
  | .ldaaIdx _ => 0xA6#8
  | .staaIdx _ => 0xA7#8
  | .eoraIdx _ => 0xA8#8
  | .adcaIdx _ => 0xA9#8
  | .oraaIdx _ => 0xAA#8
  | .addaIdx _ => 0xAB#8
  | .cpxIdx _ => 0xAC#8
  | .jsrIdx _ => 0xAD#8
  | .ldsIdx _ => 0xAE#8
  | .stsIdx _ => 0xAF#8
  | .subaExt _ => 0xB0#8
  | .cmpaExt _ => 0xB1#8
  | .sbcaExt _ => 0xB2#8
  | .subdExt _ => 0xB3#8
  | .andaExt _ => 0xB4#8
  | .bitaExt _ => 0xB5#8
  | .ldaaExt _ => 0xB6#8
  | .staaExt _ => 0xB7#8
  | .eoraExt _ => 0xB8#8
  | .adcaExt _ => 0xB9#8
  | .oraaExt _ => 0xBA#8
  | .addaExt _ => 0xBB#8
  | .cpxExt _ => 0xBC#8
  | .jsrExt _ => 0xBD#8
  | .ldsExt _ => 0xBE#8
  | .stsExt _ => 0xBF#8
  | .subbImm _ => 0xC0#8
  | .cmpbImm _ => 0xC1#8
  | .sbcbImm _ => 0xC2#8
  | .adddImm _ => 0xC3#8
  | .andbImm _ => 0xC4#8
  | .bitbImm _ => 0xC5#8
  | .ldabImm _ => 0xC6#8
  | .eorbImm _ => 0xC8#8
  | .adcbImm _ => 0xC9#8
  | .orabImm _ => 0xCA#8
  | .addbImm _ => 0xCB#8
  | .lddImm _ => 0xCC#8
  | .ldxImm _ => 0xCE#8
  | .subbDir _ => 0xD0#8
  | .cmpbDir _ => 0xD1#8
  | .sbcbDir _ => 0xD2#8
  | .adddDir _ => 0xD3#8
  | .andbDir _ => 0xD4#8
  | .bitbDir _ => 0xD5#8
  | .ldabDir _ => 0xD6#8
  | .stabDir _ => 0xD7#8
  | .eorbDir _ => 0xD8#8
  | .adcbDir _ => 0xD9#8
  | .orabDir _ => 0xDA#8
  | .addbDir _ => 0xDB#8
  | .lddDir _ => 0xDC#8
  | .stdDir _ => 0xDD#8
  | .ldxDir _ => 0xDE#8
  | .stxDir _ => 0xDF#8
  | .subbIdx _ => 0xE0#8
  | .cmpbIdx _ => 0xE1#8
  | .sbcbIdx _ => 0xE2#8
  | .adddIdx _ => 0xE3#8
  | .andbIdx _ => 0xE4#8
  | .bitbIdx _ => 0xE5#8
  | .ldabIdx _ => 0xE6#8
  | .stabIdx _ => 0xE7#8
  | .eorbIdx _ => 0xE8#8
  | .adcbIdx _ => 0xE9#8
  | .orabIdx _ => 0xEA#8
  | .addbIdx _ => 0xEB#8
  | .lddIdx _ => 0xEC#8
  | .stdIdx _ => 0xED#8
  | .ldxIdx _ => 0xEE#8
  | .stxIdx _ => 0xEF#8
  | .subbExt _ => 0xF0#8
  | .cmpbExt _ => 0xF1#8
  | .sbcbExt _ => 0xF2#8
  | .adddExt _ => 0xF3#8
  | .andbExt _ => 0xF4#8
  | .bitbExt _ => 0xF5#8
  | .ldabExt _ => 0xF6#8
  | .stabExt _ => 0xF7#8
  | .eorbExt _ => 0xF8#8
  | .adcbExt _ => 0xF9#8
  | .orabExt _ => 0xFA#8
  | .addbExt _ => 0xFB#8
  | .lddExt _ => 0xFC#8
  | .stdExt _ => 0xFD#8
  | .ldxExt _ => 0xFE#8
  | .stxExt _ => 0xFF#8

/-- A word as its two bytes, most significant first (20_memory.md R71). -/
def wordBytes (w : Word) : List Byte :=
  [w.extractLsb' 8 8, w.extractLsb' 0 8]

/-- The operand bytes of an instruction, in the order of its format (30_encoding.md R92 to R100). -/
def Instr.operandBytes : Instr → List Byte
  | .illegal _ => []
  | .bra rr => [rr]
  | .brn rr => [rr]
  | .bhi rr => [rr]
  | .bls rr => [rr]
  | .bcc rr => [rr]
  | .bcs rr => [rr]
  | .bne rr => [rr]
  | .beq rr => [rr]
  | .bvc rr => [rr]
  | .bvs rr => [rr]
  | .bpl rr => [rr]
  | .bmi rr => [rr]
  | .bge rr => [rr]
  | .blt rr => [rr]
  | .bgt rr => [rr]
  | .ble rr => [rr]
  | .negIdx ff => [ff]
  | .aimIdx ii ff => [ii, ff]
  | .oimIdx ii ff => [ii, ff]
  | .comIdx ff => [ff]
  | .lsrIdx ff => [ff]
  | .eimIdx ii ff => [ii, ff]
  | .rorIdx ff => [ff]
  | .asrIdx ff => [ff]
  | .aslIdx ff => [ff]
  | .rolIdx ff => [ff]
  | .decIdx ff => [ff]
  | .timIdx ii ff => [ii, ff]
  | .incIdx ff => [ff]
  | .tstIdx ff => [ff]
  | .jmpIdx ff => [ff]
  | .clrIdx ff => [ff]
  | .negExt hhll => wordBytes hhll
  | .aimDir ii dd => [ii, dd]
  | .oimDir ii dd => [ii, dd]
  | .comExt hhll => wordBytes hhll
  | .lsrExt hhll => wordBytes hhll
  | .eimDir ii dd => [ii, dd]
  | .rorExt hhll => wordBytes hhll
  | .asrExt hhll => wordBytes hhll
  | .aslExt hhll => wordBytes hhll
  | .rolExt hhll => wordBytes hhll
  | .decExt hhll => wordBytes hhll
  | .timDir ii dd => [ii, dd]
  | .incExt hhll => wordBytes hhll
  | .tstExt hhll => wordBytes hhll
  | .jmpExt hhll => wordBytes hhll
  | .clrExt hhll => wordBytes hhll
  | .subaImm ii => [ii]
  | .cmpaImm ii => [ii]
  | .sbcaImm ii => [ii]
  | .subdImm jjkk => wordBytes jjkk
  | .andaImm ii => [ii]
  | .bitaImm ii => [ii]
  | .ldaaImm ii => [ii]
  | .eoraImm ii => [ii]
  | .adcaImm ii => [ii]
  | .oraaImm ii => [ii]
  | .addaImm ii => [ii]
  | .cpxImm jjkk => wordBytes jjkk
  | .bsr rr => [rr]
  | .ldsImm jjkk => wordBytes jjkk
  | .subaDir dd => [dd]
  | .cmpaDir dd => [dd]
  | .sbcaDir dd => [dd]
  | .subdDir dd => [dd]
  | .andaDir dd => [dd]
  | .bitaDir dd => [dd]
  | .ldaaDir dd => [dd]
  | .staaDir dd => [dd]
  | .eoraDir dd => [dd]
  | .adcaDir dd => [dd]
  | .oraaDir dd => [dd]
  | .addaDir dd => [dd]
  | .cpxDir dd => [dd]
  | .jsrDir dd => [dd]
  | .ldsDir dd => [dd]
  | .stsDir dd => [dd]
  | .subaIdx ff => [ff]
  | .cmpaIdx ff => [ff]
  | .sbcaIdx ff => [ff]
  | .subdIdx ff => [ff]
  | .andaIdx ff => [ff]
  | .bitaIdx ff => [ff]
  | .ldaaIdx ff => [ff]
  | .staaIdx ff => [ff]
  | .eoraIdx ff => [ff]
  | .adcaIdx ff => [ff]
  | .oraaIdx ff => [ff]
  | .addaIdx ff => [ff]
  | .cpxIdx ff => [ff]
  | .jsrIdx ff => [ff]
  | .ldsIdx ff => [ff]
  | .stsIdx ff => [ff]
  | .subaExt hhll => wordBytes hhll
  | .cmpaExt hhll => wordBytes hhll
  | .sbcaExt hhll => wordBytes hhll
  | .subdExt hhll => wordBytes hhll
  | .andaExt hhll => wordBytes hhll
  | .bitaExt hhll => wordBytes hhll
  | .ldaaExt hhll => wordBytes hhll
  | .staaExt hhll => wordBytes hhll
  | .eoraExt hhll => wordBytes hhll
  | .adcaExt hhll => wordBytes hhll
  | .oraaExt hhll => wordBytes hhll
  | .addaExt hhll => wordBytes hhll
  | .cpxExt hhll => wordBytes hhll
  | .jsrExt hhll => wordBytes hhll
  | .ldsExt hhll => wordBytes hhll
  | .stsExt hhll => wordBytes hhll
  | .subbImm ii => [ii]
  | .cmpbImm ii => [ii]
  | .sbcbImm ii => [ii]
  | .adddImm jjkk => wordBytes jjkk
  | .andbImm ii => [ii]
  | .bitbImm ii => [ii]
  | .ldabImm ii => [ii]
  | .eorbImm ii => [ii]
  | .adcbImm ii => [ii]
  | .orabImm ii => [ii]
  | .addbImm ii => [ii]
  | .lddImm jjkk => wordBytes jjkk
  | .ldxImm jjkk => wordBytes jjkk
  | .subbDir dd => [dd]
  | .cmpbDir dd => [dd]
  | .sbcbDir dd => [dd]
  | .adddDir dd => [dd]
  | .andbDir dd => [dd]
  | .bitbDir dd => [dd]
  | .ldabDir dd => [dd]
  | .stabDir dd => [dd]
  | .eorbDir dd => [dd]
  | .adcbDir dd => [dd]
  | .orabDir dd => [dd]
  | .addbDir dd => [dd]
  | .lddDir dd => [dd]
  | .stdDir dd => [dd]
  | .ldxDir dd => [dd]
  | .stxDir dd => [dd]
  | .subbIdx ff => [ff]
  | .cmpbIdx ff => [ff]
  | .sbcbIdx ff => [ff]
  | .adddIdx ff => [ff]
  | .andbIdx ff => [ff]
  | .bitbIdx ff => [ff]
  | .ldabIdx ff => [ff]
  | .stabIdx ff => [ff]
  | .eorbIdx ff => [ff]
  | .adcbIdx ff => [ff]
  | .orabIdx ff => [ff]
  | .addbIdx ff => [ff]
  | .lddIdx ff => [ff]
  | .stdIdx ff => [ff]
  | .ldxIdx ff => [ff]
  | .stxIdx ff => [ff]
  | .subbExt hhll => wordBytes hhll
  | .cmpbExt hhll => wordBytes hhll
  | .sbcbExt hhll => wordBytes hhll
  | .adddExt hhll => wordBytes hhll
  | .andbExt hhll => wordBytes hhll
  | .bitbExt hhll => wordBytes hhll
  | .ldabExt hhll => wordBytes hhll
  | .stabExt hhll => wordBytes hhll
  | .eorbExt hhll => wordBytes hhll
  | .adcbExt hhll => wordBytes hhll
  | .orabExt hhll => wordBytes hhll
  | .addbExt hhll => wordBytes hhll
  | .lddExt hhll => wordBytes hhll
  | .stdExt hhll => wordBytes hhll
  | .ldxExt hhll => wordBytes hhll
  | .stxExt hhll => wordBytes hhll
  | .nop | .lsrd | .asld | .tap | .tpa | .inx | .dex | .clv | .sev | .clc | .sec | .cli | .sei | .sba | .cba | .tab
  | .tba | .xgdx | .daa | .slp | .aba | .tsx | .ins | .pula | .pulb | .des | .txs | .psha | .pshb | .pulx | .rts
  | .abx | .rti | .pshx | .mul | .wai | .swi | .nega | .coma | .lsra | .rora | .asra | .asla | .rola | .deca
  | .inca | .tsta | .clra | .negb | .comb | .lsrb | .rorb | .asrb | .aslb | .rolb | .decb | .incb | .tstb | .clrb => []

/-- The bytes of an instruction: its opcode, then its operand bytes (30_encoding.md R90, R91). -/
def encode (i : Instr) : List Byte :=
  i.opcode :: i.operandBytes

/-- The length of an instruction in bytes (30_encoding.md R90). -/
def Instr.length (i : Instr) : Nat :=
  (encode i).length

/-- The bytes a table word stands for: byte k is bits 8k+7 to 8k, the bits from `nbits` on being 0. -/
def tableWordBytes (nbits w : Nat) : List Byte :=
  let v := w % 2 ^ nbits
  [BitVec.ofNat 8 v, BitVec.ofNat 8 (v / 256), BitVec.ofNat 8 (v / 65536)]

/-- The instruction the decoder reads from a row of `spec/opcode_table.json` whose bits are `w`. -/
def decodeTableWord (nbits w : Nat) : Option Instr :=
  match decode (tableWordBytes nbits w) with
  | .ok r => some r.1
  | .error _ => none

end Sys2Proof
end

