-- ==== Sys2Proof/Machine/State.lean ====
section
/-! DEFINITION. The state of the block as plain data, every piece the spec names (10_state.md), the reasons a step can
stop, and the state after reset. -/

namespace Sys2Proof.Machine

open Sys2Proof

/-- The stored bytes, RAM and firmware image, as (address, byte) pairs. Canonical form (`Memory.wf`): addresses strictly
rising, each in RAM or in the image, and no byte $00, which is what an unlisted address reads as (log 11). -/
abbrev Memory := List Host.Cell

/-- The condition code register: six one-bit flags (10_state.md R25, R26). Bits 7 and 6 of its byte are no state. -/
structure Ccr where
  /-- H, half-carry. -/
  h : Bool
  /-- I, interrupt mask: true blocks the dispatch of both sources (R27). -/
  i : Bool
  /-- N, negative. -/
  n : Bool
  /-- Z, zero. -/
  z : Bool
  /-- V, overflow. -/
  v : Bool
  /-- C, carry or borrow. -/
  c : Bool
  deriving DecidableEq, Repr

/-- The timer (10_state.md R30 to R33). -/
structure Timer where
  /-- The free-running cycle counter (R30). -/
  counter : Word
  /-- The output compare register (R31). -/
  ocr : Word
  /-- OCF, TCSR bit 6 (R32). -/
  ocf : Bool
  /-- TCSR bits 4:0: EICI, EOCI, ETOI, IEDG, OLVL (R32). -/
  tcsrLo : BitVec 5
  /-- TCSR has been read while OCF was 1 (R33). -/
  ocfArmed : Bool
  /-- TOF, state of the alternative `HAS_TOF` = true alone: with the spec's value nothing reads or writes it
  (93_implementation_defined.md A7; log 22). -/
  tof : Bool
  /-- TCSR has been read while TOF was 1, state of the same alternative (log 22). -/
  tofArmed : Bool
  deriving DecidableEq, Repr

/-- The serial peripheral (10_state.md R34 to R39). -/
structure Serial where
  /-- RDRF, TRCSR bit 7: a byte is in `rdr` and has not been read (R34, R38). -/
  rdrf : Bool
  /-- ORFE, TRCSR bit 6: a byte arrived while RDRF was 1 (R34). -/
  orfe : Bool
  /-- TDRE, TRCSR bit 5: mirrors the host's capacity report (R34). -/
  tdre : Bool
  /-- TRCSR bits 4:0: RIE, RE, TIE, TE, WU (R34). -/
  trcsrLo : BitVec 5
  /-- The receive shadow register (R35). -/
  rdr : Byte
  /-- The transmit shadow register (R36). -/
  tdr : Byte
  /-- The outbound byte queue, the oldest byte first (R37). -/
  txq : List Byte
  /-- A TDR write found the queue full (R39). -/
  sat : Bool
  deriving DecidableEq, Repr

/-- The wait state (10_state.md R43). -/
inductive WaitState where
  /-- Normal execution. -/
  | run
  /-- Entered by WAI (60_exceptions.md R317). -/
  | wai
  /-- Entered by SLP (60_exceptions.md R318). -/
  | slp
  deriving DecidableEq, Repr

/-- The whole state of the block (10_state.md), and two fields of the model's own, `draws` and `portEvents`. -/
structure State where
  /-- Accumulator A (R20). -/
  a : Byte
  /-- Accumulator B (R20). -/
  b : Byte
  /-- Index register X (R22). -/
  x : Word
  /-- Stack pointer SP, the address of the next free byte (R23). -/
  sp : Word
  /-- Program counter: between two steps, the address of the next opcode byte (R24). -/
  pc : Word
  /-- The flags (R25). -/
  ccr : Ccr
  /-- Working RAM and the firmware image (R46, R47). -/
  mem : Memory
  /-- The timer (R30 to R33). -/
  timer : Timer
  /-- The serial peripheral (R34 to R39). -/
  serial : Serial
  /-- The cumulative consumed-cycle count (R40). -/
  cyclesTotal : Nat
  /-- The sticky crashed flag (R41). -/
  crashed : Bool
  /-- The pause-request flag (R42). -/
  pauseReq : Bool
  /-- The pause request has been honoured (R42). -/
  paused : Bool
  /-- The wait state (R43). -/
  waitState : WaitState
  /-- The last instruction was a CLI or TAP that left I = 0, state of the alternative `CLI_DELAY` = true alone: with the
  spec's value nothing reads it and only a reset writes it (93_implementation_defined.md A2; log 23). -/
  cliShadow : Bool
  /-- The phase counter, an opaque value that no rule reads (R44; log 4). -/
  phase : Nat
  /-- The MODEL's own: how many arbitrary values have been drawn (00_scope.md R7; log 6). -/
  draws : Nat
  /-- The MODEL's own: the PORT events (address, byte) of 20_memory.md R67, oldest first (log 10). -/
  portEvents : List Host.Cell
  deriving DecidableEq, Repr

/-- Why a step stops without an effect. Nothing in the spec does: no memory access faults (20_memory.md R76), and the
one synchronous exception, Crash, has an effect the spec gives whole (60_exceptions.md R301, R302; log 12). -/
inductive Fault where
  deriving DecidableEq, Repr

/-- Why the model gives an instruction no meaning, or a host's call none. -/
inductive Refusal where
  /-- Raised by an arm of `exec` for an instruction without a meaning; no arm raises it. Safe: the model stops. -/
  | notModelled (mnemonic : String)
  /-- Raised by `hostCall` alone, for a port called where the host may not call it (60_exceptions.md R346,
  93_implementation_defined.md U23); no step raises it. Safe: the model stops. -/
  | portNotAdmitted
  deriving DecidableEq, Repr

/-- What an instruction or a step answers. -/
abbrev Result := Host.Outcome State Fault Refusal

/-- The machine right after construction and `reset(cold)`, the firmware image still blank (10_state.md R50): the
peripherals, I, `crashed`, `waitState` and RAM at the values of R50; pc at the blank image's reset vector, $0000.
A, B, X, SP (log 2), H, N, Z, V, C (log 3), `phase` (log 4), `cyclesTotal` (log 5) and the image (log 1) are at values
the model names. -/
def State.reset : State where
  a := 0x00
  b := 0x00
  x := 0x0000
  sp := 0x0000
  pc := 0x0000
  ccr := { h := false, i := true, n := false, z := false, v := false, c := false }
  mem := []
  timer := { counter := 0x0000, ocr := 0xFFFF, ocf := false, tcsrLo := 0, ocfArmed := false, tof := false, tofArmed := false }
  serial :=
    { rdrf := false, orfe := false, tdre := true, trcsrLo := 0, rdr := 0x00, tdr := 0x00, txq := [], sat := false }
  cyclesTotal := 0
  crashed := false
  pauseReq := false
  paused := false
  waitState := .run
  cliShadow := false
  phase := 0
  draws := 0
  portEvents := []

end Sys2Proof.Machine
end

