-- ==== Sys2Proof/Machine/Flags.lean ====
section
/-! DEFINITION. Results and flags: the arithmetic laws (41_arithmetic.md R150 to R156), the single-operand operations, the
shifts and rotates (42_logic_shift_bit.md R200), the logic flags (R201), DAA and the branch conditions. An operation on
flags takes the flags before and keeps those its rule does not name. -/

namespace Sys2Proof.Machine

open Sys2Proof

/-! ### Flags from a result -/

/-- (N, Z) <- nz8(v) (41_arithmetic.md R150). -/
def Ccr.nz8 (cc : Ccr) (v : Byte) : Ccr :=
  { cc with n := v.getLsbD 7, z := decide (v = 0) }

/-- (N, Z) <- nz16(v) (41_arithmetic.md R151). -/
def Ccr.nz16 (cc : Ccr) (v : Word) : Ccr :=
  { cc with n := v.getLsbD 15, z := decide (v = 0) }

/-- Flags of a moved byte: nz8 and V <- 0 (40_load_store_transfer.md R120; also the logic instructions, R201). -/
def Ccr.move8 (cc : Ccr) (v : Byte) : Ccr :=
  { cc.nz8 v with v := false }

/-- Flags of a moved word: nz16 and V <- 0 (40_load_store_transfer.md R122). -/
def Ccr.move16 (cc : Ccr) (v : Word) : Ccr :=
  { cc.nz16 v with v := false }

/-- Flags of a clear (40_load_store_transfer.md R141 to R143). -/
def Ccr.clear (cc : Ccr) : Ccr :=
  { cc with n := false, z := true, v := false, c := false }

/-- Flags of a test: nz8, V <- 0, C <- 0 (41_arithmetic.md R189 to R191). -/
def Ccr.test (cc : Ccr) (v : Byte) : Ccr :=
  { cc.nz8 v with v := false, c := false }

/-! ### Addition and subtraction -/

/-- V of an addition: operands of one sign, result of the other (41_arithmetic.md R152, R154). -/
def addOverflow (a m res : Bool) : Bool :=
  (a && m && !res) || (!a && !m && res)

/-- V of a subtraction: operands of different sign, result not of the sign of the first (41_arithmetic.md R153, R155). -/
def subOverflow (a m res : Bool) : Bool :=
  (a && !m && !res) || (!a && m && res)

/-- `add8(a, m, cin)`: the result and the flags H, N, Z, V, C (41_arithmetic.md R152). -/
def add8 (cc : Ccr) (a m : Byte) (cin : Bool) : Byte × Ccr :=
  let sum := a.toNat + m.toNat + cin.toNat
  let res := BitVec.ofNat 8 sum
  (res,
    { cc.nz8 res with
      h := decide (a.toNat % 16 + m.toNat % 16 + cin.toNat > 15)
      v := addOverflow (a.getLsbD 7) (m.getLsbD 7) (res.getLsbD 7)
      c := decide (sum > 255) })

/-- `sub8(a, m, bin)`: the result and the flags N, Z, V, C; H is not written (41_arithmetic.md R153). -/
def sub8 (cc : Ccr) (a m : Byte) (bin : Bool) : Byte × Ccr :=
  let diff : Int := (a.toNat : Int) - m.toNat - bin.toNat
  let res := BitVec.ofInt 8 diff
  (res,
    { cc.nz8 res with
      v := subOverflow (a.getLsbD 7) (m.getLsbD 7) (res.getLsbD 7)
      c := decide (diff < 0) })

/-- `add16(a, m)`: the result and the flags N, Z, V, C (41_arithmetic.md R154). -/
def add16 (cc : Ccr) (a m : Word) : Word × Ccr :=
  let sum := a.toNat + m.toNat
  let res := BitVec.ofNat 16 sum
  (res,
    { cc.nz16 res with
      v := addOverflow (a.getLsbD 15) (m.getLsbD 15) (res.getLsbD 15)
      c := decide (sum > 65535) })

/-- `sub16(a, m)`: the result and the flags N, Z, V, C (41_arithmetic.md R155). -/
def sub16 (cc : Ccr) (a m : Word) : Word × Ccr :=
  let diff : Int := (a.toNat : Int) - m.toNat
  let res := BitVec.ofInt 16 diff
  (res,
    { cc.nz16 res with
      v := subOverflow (a.getLsbD 15) (m.getLsbD 15) (res.getLsbD 15)
      c := decide (diff < 0) })

/-- The operation of MUL: the product and C, its bit 7 (41_arithmetic.md R170). -/
def mul8 (cc : Ccr) (a b : Byte) : Word × Ccr :=
  let p := BitVec.ofNat 16 (a.toNat * b.toNat)
  (p, { cc with c := p.getLsbD 7 })

/-- The correction byte of DAA (41_arithmetic.md R171). -/
def daaCorrection (cc : Ccr) (a : Byte) : Byte :=
  let lo := a.toNat % 16
  let hi := a.toNat / 16
  (if lo > 9 || cc.h then 0x06 else 0x00) ||| (if (hi > 8 && lo > 9) || hi > 9 || cc.c then 0x60 else 0x00)

/-- The operation of DAA: the adjusted A and the flags N, Z, C; V is `anyV` (41_arithmetic.md R171; log 8). -/
def daa (cc : Ccr) (a : Byte) (anyV : Bool) : Byte × Ccr :=
  let t := a.toNat + (daaCorrection cc a).toNat
  let res := BitVec.ofNat 8 t
  (res, { cc.nz8 res with v := anyV, c := cc.c || decide (t > 255) })

/-! ### Single-operand operations -/

/-- NEG (41_arithmetic.md R172). -/
def neg8 (cc : Ccr) (m : Byte) : Byte × Ccr :=
  let res := 0 - m
  (res, { cc.nz8 res with v := decide (res = 0x80), c := decide (res ≠ 0x00) })

/-- INC: C is kept (41_arithmetic.md R175). -/
def inc8 (cc : Ccr) (m : Byte) : Byte × Ccr :=
  let res := m + 1
  (res, { cc.nz8 res with v := decide (m = 0x7F) })

/-- DEC: C is kept (41_arithmetic.md R178). -/
def dec8 (cc : Ccr) (m : Byte) : Byte × Ccr :=
  let res := m - 1
  (res, { cc.nz8 res with v := decide (m = 0x80) })

/-- COM: C is set (42_logic_shift_bit.md R210). -/
def com8 (cc : Ccr) (m : Byte) : Byte × Ccr :=
  let res := ~~~m
  (res, { cc.move8 res with c := true })

/-! ### Shifts and rotates -/

/-- Flags of a shift: N and Z from the result, C the bit shifted out, V <- N xor C (42_logic_shift_bit.md R200). -/
def Ccr.shift8 (cc : Ccr) (res : Byte) (out : Bool) : Ccr :=
  { cc.nz8 res with v := res.getLsbD 7 ^^ out, c := out }

/-- Flags of a shift of D (42_logic_shift_bit.md R228, R229). -/
def Ccr.shift16 (cc : Ccr) (res : Word) (out : Bool) : Ccr :=
  { cc.nz16 res with v := res.getLsbD 15 ^^ out, c := out }

/-- ASL: 0 enters bit 0 (42_logic_shift_bit.md R213). -/
def asl8 (cc : Ccr) (v : Byte) : Byte × Ccr :=
  let res : Byte := v.extractLsb' 0 7 ++ 0b0#1
  (res, cc.shift8 res (v.getLsbD 7))

/-- ASR: bit 7 is kept (42_logic_shift_bit.md R216). -/
def asr8 (cc : Ccr) (v : Byte) : Byte × Ccr :=
  let res : Byte := BitVec.ofBool (v.getLsbD 7) ++ v.extractLsb' 1 7
  (res, cc.shift8 res (v.getLsbD 0))

/-- LSR: 0 enters bit 7 (42_logic_shift_bit.md R219). -/
def lsr8 (cc : Ccr) (v : Byte) : Byte × Ccr :=
  let res : Byte := 0b0#1 ++ v.extractLsb' 1 7
  (res, cc.shift8 res (v.getLsbD 0))

/-- ROL: the old C enters bit 0 (42_logic_shift_bit.md R222). -/
def rol8 (cc : Ccr) (v : Byte) : Byte × Ccr :=
  let res : Byte := v.extractLsb' 0 7 ++ BitVec.ofBool cc.c
  (res, cc.shift8 res (v.getLsbD 7))

/-- ROR: the old C enters bit 7 (42_logic_shift_bit.md R225). -/
def ror8 (cc : Ccr) (v : Byte) : Byte × Ccr :=
  let res : Byte := BitVec.ofBool cc.c ++ v.extractLsb' 1 7
  (res, cc.shift8 res (v.getLsbD 0))

/-- ASLD (42_logic_shift_bit.md R228). -/
def asl16 (cc : Ccr) (v : Word) : Word × Ccr :=
  let res : Word := v.extractLsb' 0 15 ++ 0b0#1
  (res, cc.shift16 res (v.getLsbD 15))

/-- LSRD (42_logic_shift_bit.md R229). -/
def lsr16 (cc : Ccr) (v : Word) : Word × Ccr :=
  let res : Word := 0b0#1 ++ v.extractLsb' 1 15
  (res, cc.shift16 res (v.getLsbD 0))

/-! ### Logic -/

/-- AND: C is kept (42_logic_shift_bit.md R201, R202). -/
def and8 (cc : Ccr) (a m : Byte) : Byte × Ccr :=
  (a &&& m, cc.move8 (a &&& m))

/-- ORA, OIM (42_logic_shift_bit.md R201, R204). -/
def or8 (cc : Ccr) (a m : Byte) : Byte × Ccr :=
  (a ||| m, cc.move8 (a ||| m))

/-- EOR, EIM (42_logic_shift_bit.md R201, R206). -/
def eor8 (cc : Ccr) (a m : Byte) : Byte × Ccr :=
  (a ^^^ m, cc.move8 (a ^^^ m))

/-! ### Branch conditions -/

/-- The tests of the conditional branches (43_control_transfer.md R241). -/
inductive Cond where
  /-- Always. -/
  | ra
  /-- Never. -/
  | rn
  /-- C or Z is 0. -/
  | hi
  /-- C or Z is 1. -/
  | ls
  /-- C = 0. -/
  | cc
  /-- C = 1. -/
  | cs
  /-- Z = 0. -/
  | ne
  /-- Z = 1. -/
  | eq
  /-- V = 0. -/
  | vc
  /-- V = 1. -/
  | vs
  /-- N = 0. -/
  | pl
  /-- N = 1. -/
  | mi
  /-- N xor V is 0. -/
  | ge
  /-- N xor V is 1. -/
  | lt
  /-- Z or (N xor V) is 0. -/
  | gt
  /-- Z or (N xor V) is 1. -/
  | le
  deriving DecidableEq, Repr

/-- Whether a branch on this test is taken (43_control_transfer.md R241). -/
def Cond.holds (k : Cond) (f : Ccr) : Bool :=
  match k with
  | .ra => true
  | .rn => false
  | .hi => !(f.c || f.z)
  | .ls => f.c || f.z
  | .cc => !f.c
  | .cs => f.c
  | .ne => !f.z
  | .eq => f.z
  | .vc => !f.v
  | .vs => f.v
  | .pl => !f.n
  | .mi => f.n
  | .ge => !(f.n ^^ f.v)
  | .lt => f.n ^^ f.v
  | .gt => !(f.z || (f.n ^^ f.v))
  | .le => f.z || (f.n ^^ f.v)

end Sys2Proof.Machine
end

