-- ==== Sys2Proof/Config.lean ====
section
/-! DEFINITION. What an implementation fixes and what the spec leaves open: the open parameter `TXQ_CAP`, the
parameter `OVERRUN_POLICY`, and the free values that stand for the spec's "any value" (00_scope.md R6 and R7). -/

namespace Sys2Proof.Config

/-- The n-th arbitrary byte: what a read of an unmapped address, of an unowned window address or of TDR returns, and
what an accumulator holds after a reset (00_scope.md R7). No body: no proof can know it (log 6, safe). -/
opaque freeByte : Nat → Byte

/-- The n-th arbitrary 16-bit value: X and SP after a reset (70_reset_and_hazards.md R382; log 6, safe). -/
opaque freeWord : Nat → Word

/-- The n-th arbitrary flag: V after DAA (41_arithmetic.md R171), H, N, Z, V, C after a reset (log 6, safe). -/
opaque freeBit : Nat → Bool

/-- The n-th arbitrary phase: `phase` after a cold reset (70_reset_and_hazards.md R386; log 6, safe). -/
opaque freePhase : Nat → Nat

/-- `TXQ_CAP` less one, unknown: the capacity is at least 1, or there is none (92_eei_decisions.md section 2; log 9, safe). -/
opaque txqCapLessOne : Option Nat

/-- `TXQ_CAP`, the capacity of the outbound queue: OPEN, at least 1, or unbounded, which is `none` (00_scope.md R6,
92_eei_decisions.md section 2). -/
def txqCap : Option Nat :=
  txqCapLessOne.map (· + 1)

/-- A queue of this capacity that holds `n` bytes takes one more (60_exceptions.md R336). -/
def hasRoom (cap : Option Nat) (n : Nat) : Bool :=
  match cap with
  | none => true
  | some k => decide (n < k)

/-- The outbound queue takes one more byte than `n` (60_exceptions.md R336, R342). -/
def txqHasRoom (n : Nat) : Bool :=
  hasRoom txqCap n

/-- The two values of `OVERRUN_POLICY` (60_exceptions.md R343). -/
inductive OverrunPolicy where
  /-- The unread byte is kept, the new byte is lost. -/
  | preserve
  /-- The new byte takes the unread byte's place. -/
  | replace
  deriving DecidableEq, Repr

end Sys2Proof.Config
end

