-- ==== Sys2Proof/Machine/Params.lean ====
section
/-! DEFINITION. The parameters of 00_scope.md R6. The address map, the vectors and the two switches of the chip's alternatives
are named values; the instruction table, the cycle costs and the overrun policy, which the spec wants as arguments
(30_encoding.md R112, 92_eei_decisions.md section 2), are a record `Params` that the step, `run` and the ports take. -/

namespace Sys2Proof.Machine

open Sys2Proof

/-- `REG_BASE` (20_memory.md R61). -/
def regBase : Nat := 0x0000

/-- `REG_SIZE` (20_memory.md R61). -/
def regSize : Nat := 32

/-- `RAM_BASE` (20_memory.md R61). -/
def ramBase : Nat := 0x0080

/-- `RAM_SIZE` (20_memory.md R61). -/
def ramSize : Nat := 128

/-- `ROM_BASE` (20_memory.md R61). -/
def romBase : Nat := 0xF000

/-- `ROM_SIZE` (20_memory.md R61). -/
def romSize : Nat := 4096

/-- `VEC_RES`, read by a reset (60_exceptions.md R309). -/
def vecRes : Word := 0xFFFE

/-- `VEC_SWI`, read by SWI (60_exceptions.md R309). -/
def vecSwi : Word := 0xFFFA

/-- `VEC_OCF`, read by the dispatch of the timer's request (60_exceptions.md R309). -/
def vecOcf : Word := 0xFFF4

/-- `VEC_SCI`, read by the dispatch of the serial request (60_exceptions.md R309). -/
def vecSci : Word := 0xFFF0

/-- The vector of the timer overflow, in use with `HAS_TOF` alone (93_implementation_defined.md A7). -/
def vecTof : Word := 0xFFF2

/-- `HAS_TOF`: whether the timer overflow flag exists. The spec's value is false (60_exceptions.md R329, 90_conflicts.md C6); with
true the timer is that of 93_implementation_defined.md A7 (log 14, log 22). -/
def hasTof : Bool := false

/-- `CLI_DELAY`: whether an interrupt is held off for one instruction after CLI or TAP. The spec's value is false
(60_exceptions.md R307, 90_conflicts.md C7); with true it is the delay of 93_implementation_defined.md A2 (log 14, log 23). -/
def cliDelay : Bool := false

/-- The parameters a step and a port take as an argument. -/
structure Params where
  /-- `ISA_TABLE`: what an opcode byte stands for (30_encoding.md R102; log 25). -/
  isaTable : IsaTable
  /-- `CYCLES`: the cost of a defined opcode (30_encoding.md R112). -/
  opcodeCycles : Byte → Nat
  /-- `DISPATCH_CYCLES` (60_exceptions.md R312). -/
  dispatchCycles : Nat
  /-- `WAI_EXIT_CYCLES` (60_exceptions.md R317). -/
  waiExitCycles : Nat
  /-- `IDLE_CYCLES` (60_exceptions.md R317, R318). -/
  idleCycles : Nat
  /-- `OVERRUN_POLICY` (60_exceptions.md R343, 93_implementation_defined.md U1). -/
  overrunPolicy : Config.OverrunPolicy

/-- The requirements of 92_eei_decisions.md section 2: each byte has a row of the table or is illegal, and each cost is at least
1, that of a defined opcode among them (30_encoding.md R112). -/
structure Params.Valid (p : Params) : Prop where
  /-- The table is one of rows. -/
  table : p.isaTable.Valid
  /-- Every defined opcode costs a cycle. -/
  opcode : ∀ op : Byte, (p.isaTable op).isIllegal = false → 1 ≤ p.opcodeCycles op
  /-- So does a dispatch. -/
  dispatch : 1 ≤ p.dispatchCycles
  /-- So does leaving the WAI state. -/
  waiExit : 1 ≤ p.waiExitCycles
  /-- So does an idle step. -/
  idle : 1 ≤ p.idleCycles

/-- No cost is above `m`: what `max_instruction_cycles` says of the default, where it is 12 (30_encoding.md R113). -/
structure Params.CostsAtMost (p : Params) (m : Nat) : Prop where
  /-- No opcode. -/
  opcode : ∀ op : Byte, p.opcodeCycles op ≤ m
  /-- No dispatch. -/
  dispatch : p.dispatchCycles ≤ m
  /-- No exit from the WAI state. -/
  waiExit : p.waiExitCycles ≤ m
  /-- No idle step. -/
  idle : p.idleCycles ≤ m

/-- The cost of the instruction with the opcode byte `op`: that of its opcode, and 0 for an illegal one (30_encoding.md R112). -/
def Params.cost (p : Params) (op : Byte) : Nat :=
  if (p.isaTable op).isIllegal then 0 else p.opcodeCycles op

/-- The default cycle costs in the shape of the opcode map, 0 where the byte is illegal (30_encoding.md R103, R112). -/
def cycleTable : List (List Nat) :=
  [
    [0, 1, 0, 0, 1, 1, 1, 1, 1, 1, 1, 1, 1, 1, 1, 1],
    [1, 1, 0, 0, 0, 0, 1, 1, 2, 2, 4, 1, 0, 0, 0, 0],
    [3, 3, 3, 3, 3, 3, 3, 3, 3, 3, 3, 3, 3, 3, 3, 3],
    [1, 1, 3, 3, 1, 1, 4, 4, 4, 5, 1, 10, 5, 7, 9, 12],
    [1, 0, 0, 1, 1, 0, 1, 1, 1, 1, 1, 0, 1, 1, 0, 1],
    [1, 0, 0, 1, 1, 0, 1, 1, 1, 1, 1, 0, 1, 1, 0, 1],
    [6, 7, 7, 6, 6, 7, 6, 6, 6, 6, 6, 5, 6, 4, 3, 5],
    [6, 6, 6, 6, 6, 6, 6, 6, 6, 6, 6, 4, 6, 4, 3, 5],
    [2, 2, 2, 3, 2, 2, 2, 0, 2, 2, 2, 2, 3, 5, 3, 0],
    [3, 3, 3, 4, 3, 3, 3, 3, 3, 3, 3, 3, 4, 5, 4, 4],
    [4, 4, 4, 5, 4, 4, 4, 4, 4, 4, 4, 4, 5, 5, 5, 5],
    [4, 4, 4, 5, 4, 4, 4, 4, 4, 4, 4, 4, 5, 6, 5, 5],
    [2, 2, 2, 3, 2, 2, 2, 0, 2, 2, 2, 2, 3, 0, 3, 0],
    [3, 3, 3, 4, 3, 3, 3, 3, 3, 3, 3, 3, 4, 4, 4, 4],
    [4, 4, 4, 5, 4, 4, 4, 4, 4, 4, 4, 4, 5, 5, 5, 5],
    [4, 4, 4, 5, 4, 4, 4, 4, 4, 4, 4, 4, 5, 5, 5, 5] ]

/-- The default of `CYCLES`: column `cycles` of opcode_table.json (30_encoding.md R103, R112; log 13). -/
def defaultOpcodeCycles (op : Byte) : Nat :=
  (cycleTable.getD (op.toNat / 16) []).getD (op.toNat % 16) 0

/-- The defaults of 00_scope.md R6, which the machine of the host runs with (log 13, log 14, log 25). -/
def Params.default : Params where
  isaTable := opcodeEntry
  opcodeCycles := defaultOpcodeCycles
  dispatchCycles := 12
  waiExitCycles := 4
  idleCycles := 1
  overrunPolicy := .preserve

end Sys2Proof.Machine
end

