-- ==== Sys2Proof/Machine/Memory.lean ====
section
/-! DEFINITION. The stored bytes: reading one, writing one in the canonical form, and the region of an address
(20_memory.md R61). -/

namespace Sys2Proof.Machine

open Sys2Proof

/-- The four classes of an address (20_memory.md R61). -/
inductive Region where
  /-- The register window, mediated by the peripherals. -/
  | reg
  /-- Working RAM. -/
  | ram
  /-- The firmware image. -/
  | rom
  /-- No region. -/
  | unmapped
  deriving DecidableEq, Repr

/-- `addr` is one of the `size` addresses from `base` on. -/
def inRange (base size addr : Nat) : Bool :=
  decide (base ≤ addr) && decide (addr < base + size)

/-- The class of an address: a function of the address only (20_memory.md R61). -/
def region (addr : Word) : Region :=
  if inRange regBase regSize addr.toNat then .reg
  else if inRange ramBase ramSize addr.toNat then .ram
  else if inRange romBase romSize addr.toNat then .rom
  else .unmapped

/-- The addresses that hold a stored byte: RAM and the image. -/
def stores (addr : Nat) : Bool :=
  inRange ramBase ramSize addr || inRange romBase romSize addr

/-- What an address that is not listed reads as: $00. RAM is zero after a cold reset (10_state.md R46); for the image
it is the blank image (log 1, log 11). -/
def unlistedByte : Byte := 0x00

/-- The stored byte at an address. -/
def Memory.read : Memory → Nat → Byte
  | [], _ => unlistedByte
  | cell :: rest, addr => if cell.1 = addr then cell.2 else Memory.read rest addr

/-- Store a byte at an address, keeping the canonical form: $00 is stored by listing nothing. -/
def Memory.write : Memory → Nat → Byte → Memory
  | [], addr, v => if v = unlistedByte then [] else [(addr, v)]
  | cell :: rest, addr, v =>
    if addr < cell.1 then if v = unlistedByte then cell :: rest else (addr, v) :: cell :: rest
    else if addr = cell.1 then if v = unlistedByte then rest else (addr, v) :: rest
    else cell :: Memory.write rest addr v

/-- The canonical form: addresses strictly rising, each in RAM or in the image, no byte $00. -/
def Memory.wf (m : Memory) : Bool :=
  decide (m.Pairwise fun p q => p.1 < q.1) && m.all fun cell => stores cell.1 && cell.2 != unlistedByte

/-- The memory with every RAM byte $00 and the image as it was (70_reset_and_hazards.md R381). -/
def Memory.clearRam (m : Memory) : Memory :=
  m.filter fun cell => !inRange ramBase ramSize cell.1

/-- The memory with `bytes` stored at the addresses from `addr` on. -/
def Memory.load : List Byte → Nat → Memory → Memory
  | [], _, m => m
  | v :: rest, addr, m => Memory.load rest (addr + 1) (Memory.write m addr v)

end Sys2Proof.Machine
end

