-- ==== Sys2Proof/Machine/Ops.lean ====
section
/-! DEFINITION. The named operations: registers and the CCR byte, the window hooks, `MemRead` and `MemWrite`, the stack,
the timer's tick, and taking an exception and returning from one. -/

namespace Sys2Proof.Machine

open Sys2Proof

/-! ### Arbitrary values (00_scope.md R7) -/

/-- Draw an arbitrary byte (log 6). -/
def State.drawByte (s : State) : Byte × State :=
  (Config.freeByte s.draws, { s with draws := s.draws + 1 })

/-- Draw an arbitrary 16-bit value (log 6). -/
def State.drawWord (s : State) : Word × State :=
  (Config.freeWord s.draws, { s with draws := s.draws + 1 })

/-- Draw an arbitrary flag (log 6). -/
def State.drawBit (s : State) : Bool × State :=
  (Config.freeBit s.draws, { s with draws := s.draws + 1 })

/-- Draw an arbitrary phase (log 6). -/
def State.drawPhase (s : State) : Nat × State :=
  (Config.freePhase s.draws, { s with draws := s.draws + 1 })

/-! ### Registers (10_state.md) -/

/-- The two accumulators, the names of the register file (10_state.md R20). -/
inductive Acc where
  /-- A. -/
  | a
  /-- B. -/
  | b
  deriving DecidableEq, Repr

/-- `x[r]` (10_state.md R20). -/
def State.acc (s : State) : Acc → Byte
  | .a => s.a
  | .b => s.b

/-- `x[r] <- v` (10_state.md R20). -/
def State.setAcc (s : State) (r : Acc) (v : Byte) : State :=
  match r with
  | .a => { s with a := v }
  | .b => { s with b := v }

/-- D = A ++ B (10_state.md R21). -/
def State.d (s : State) : Word :=
  s.a ++ s.b

/-- `D <- v`: A gets the high byte, B the low byte (10_state.md R21). -/
def State.setD (s : State) (v : Word) : State :=
  { s with a := v.extractLsb' 8 8, b := v.extractLsb' 0 8 }

/-- The registers a 16-bit instruction names. -/
inductive Reg16 where
  /-- D (10_state.md R21). -/
  | d
  /-- X (10_state.md R22). -/
  | x
  /-- SP (10_state.md R23). -/
  | sp
  deriving DecidableEq, Repr

/-- The value of a 16-bit register. -/
def State.reg16 (s : State) : Reg16 → Word
  | .d => s.d
  | .x => s.x
  | .sp => s.sp

/-- Write a 16-bit register. -/
def State.setReg16 (s : State) (r : Reg16) (v : Word) : State :=
  match r with
  | .d => s.setD v
  | .x => { s with x := v }
  | .sp => { s with sp := v }

/-- Write all six flags. -/
def State.setCcr (s : State) (cc : Ccr) : State :=
  { s with ccr := cc }

/-- Move pc past the `n` bytes of an instruction, modulo 2^16 (30_encoding.md R101). -/
def State.advance (s : State) (n : Nat) : State :=
  { s with pc := s.pc + BitVec.ofNat 16 n }

/-- `pc <- target` (10_state.md R24). -/
def State.jump (s : State) (target : Word) : State :=
  { s with pc := target }

/-- The CCR as a byte: bits 7 and 6 read 1 (10_state.md R29). -/
def Ccr.toByte (cc : Ccr) : Byte :=
  0b11#2 ++ BitVec.ofBool cc.h ++ BitVec.ofBool cc.i ++ BitVec.ofBool cc.n ++ BitVec.ofBool cc.z ++
    BitVec.ofBool cc.v ++ BitVec.ofBool cc.c

/-- The flags a byte moved into the CCR gives: bits 7 and 6 are discarded (10_state.md R29). -/
def Ccr.ofByte (v : Byte) : Ccr :=
  { h := v.getLsbD 5, i := v.getLsbD 4, n := v.getLsbD 3, z := v.getLsbD 2, v := v.getLsbD 1, c := v.getLsbD 0 }

/-! ### The timer and its window addresses (60_exceptions.md section 4) -/

/-- The high byte of a 16-bit value. -/
def highByte (w : Word) : Byte :=
  w.extractLsb' 8 8

/-- The low byte of a 16-bit value. -/
def lowByte (w : Word) : Byte :=
  w.extractLsb' 0 8

/-- TCSR as a program reads it: bit 5 is 0 unless `HAS_TOF` (10_state.md R32). -/
def Timer.tcsr (t : Timer) : Byte :=
  0b0#1 ++ BitVec.ofBool t.ocf ++ BitVec.ofBool (hasTof && t.tof) ++ t.tcsrLo

/-- A read of TCSR with OCF = 1 arms the clear; with OCF = 0 it changes nothing (60_exceptions.md R325). With `HAS_TOF` the
same holds of TOF (log 22). -/
def Timer.arm (t : Timer) : Timer :=
  { t with
    ocfArmed := t.ocfArmed || t.ocf
    tofArmed := if hasTof then t.tofArmed || t.tof else t.tofArmed }

/-- A write to either byte of OCR completes an armed clear (60_exceptions.md R327). -/
def Timer.finishClear (t : Timer) : Timer :=
  if t.ocfArmed then { t with ocf := false, ocfArmed := false } else t

/-- A read of either byte of the counter completes an armed clear of TOF; without `HAS_TOF` it changes nothing
(60_exceptions.md R322, 93_implementation_defined.md A7; log 22). -/
def Timer.finishOverflow (t : Timer) : Timer :=
  if hasTof && t.tofArmed then { t with tof := false, tofArmed := false } else t

/-- One cycle: count, then compare (60_exceptions.md R320, R321); with `HAS_TOF` the wrap to $0000 sets TOF (log 22). -/
def Timer.tickOnce (t : Timer) : Timer :=
  { t with
    counter := t.counter + 1
    ocf := t.ocf || t.counter + 1 == t.ocr
    tof := if hasTof && t.counter + 1 == 0 then true else t.tof }

/-- `tick(n)` on the timer: one cycle at a time (60_exceptions.md R320). -/
def Timer.tick : Nat → Timer → Timer
  | 0, t => t
  | n + 1, t => Timer.tick n t.tickOnce

/-- `tick(n)` (60_exceptions.md R320). -/
def State.tick (s : State) (n : Nat) : State :=
  { s with timer := s.timer.tick n }

/-! ### The serial peripheral and its window addresses (60_exceptions.md section 5) -/

/-- TRCSR as a program reads it (10_state.md R34). -/
def Serial.trcsr (p : Serial) : Byte :=
  BitVec.ofBool p.rdrf ++ BitVec.ofBool p.orfe ++ BitVec.ofBool p.tdre ++ p.trcsrLo

/-- A read of RDR clears RDRF and ORFE (60_exceptions.md R334). -/
def Serial.afterRdrRead (p : Serial) : Serial :=
  { p with rdrf := false, orfe := false }

/-- A write of TDR with a queue of capacity `cap`: TDRE is cleared and the byte queued, or `sat` set if the queue is
full (60_exceptions.md R336, R342). -/
def Serial.transmit (cap : Option Nat) (p : Serial) (v : Byte) : Serial :=
  if Config.hasRoom cap p.txq.length then { p with tdr := v, tdre := false, txq := p.txq ++ [v] }
  else { p with tdr := v, tdre := false, sat := true }

/-! ### Byte and word accesses (20_memory.md R62 to R70) -/

/-- `reg_read(a)`: the read hook of each window address (10_state.md R48). An unowned address and TDR return an
arbitrary byte (20_memory.md R67, 60_exceptions.md R339; log 7). -/
def regRead (addr : Word) (s : State) : Byte × State :=
  match addr.toNat with
  | 0x08 => (s.timer.tcsr, { s with timer := s.timer.arm })
  | 0x09 => (highByte s.timer.counter, { s with timer := s.timer.finishOverflow })
  | 0x0A => (lowByte s.timer.counter, { s with timer := s.timer.finishOverflow })
  | 0x0B => (highByte s.timer.ocr, s)
  | 0x0C => (lowByte s.timer.ocr, s)
  | 0x11 => (s.serial.trcsr, s)
  | 0x12 => (s.serial.rdr, { s with serial := s.serial.afterRdrRead })
  | _ => s.drawByte

/-- `reg_write(a, v)`: the write hook of each window address (10_state.md R48). A write to an unowned address changes no
state of the block and is reported as a PORT event (20_memory.md R67; log 10). -/
def regWrite (addr : Word) (v : Byte) (s : State) : State :=
  match addr.toNat with
  | 0x08 => { s with timer := { s.timer with tcsrLo := v.extractLsb' 0 5 } }
  | 0x09 => s
  | 0x0A => s
  | 0x0B => { s with timer := { s.timer with ocr := v ++ lowByte s.timer.ocr }.finishClear }
  | 0x0C => { s with timer := { s.timer with ocr := highByte s.timer.ocr ++ v }.finishClear }
  | 0x11 => { s with serial := { s.serial with trcsrLo := v.extractLsb' 0 5 } }
  | 0x12 => s
  | 0x13 => { s with serial := s.serial.transmit Config.txqCap v }
  | n => { s with portEvents := s.portEvents ++ [(n, v)] }

/-- `MemRead(a, 1)` (20_memory.md R62). -/
def memRead (addr : Word) (s : State) : Byte × State :=
  match region addr with
  | .reg => regRead addr s
  | .ram => (s.mem.read addr.toNat, s)
  | .rom => (s.mem.read addr.toNat, s)
  | .unmapped => s.drawByte

/-- `MemWrite(a, 1, v)` (20_memory.md R63). -/
def memWrite (addr : Word) (v : Byte) (s : State) : State :=
  match region addr with
  | .reg => regWrite addr v s
  | .ram => { s with mem := s.mem.write addr.toNat v }
  | .rom => s
  | .unmapped => s

/-- `MemRead(a, 2)`: high byte first, at the lower address (20_memory.md R69). -/
def memRead16 (addr : Word) (s : State) : Word × State :=
  let hi := memRead addr s
  let lo := memRead (addr + 1) hi.2
  (hi.1 ++ lo.1, lo.2)

/-- `MemWrite(a, 2, v)`: high byte first, at the lower address (20_memory.md R70). -/
def memWrite16 (addr : Word) (v : Word) (s : State) : State :=
  memWrite (addr + 1) (lowByte v) (memWrite addr (highByte v) s)

/-! ### The stack (20_memory.md R75) -/

/-- `push8(v)`: write at SP, then decrement SP. -/
def push8 (v : Byte) (s : State) : State :=
  let t := memWrite s.sp v s
  { t with sp := t.sp - 1 }

/-- `pull8()`: increment SP, then read at SP. -/
def pull8 (s : State) : Byte × State :=
  memRead (s.sp + 1) { s with sp := s.sp + 1 }

/-- `push16(v)`: the low byte first, so that the high byte lies at the lower address. -/
def push16 (v : Word) (s : State) : State :=
  push8 (highByte v) (push8 (lowByte v) s)

/-- `pull16()`: the high byte first. -/
def pull16 (s : State) : Word × State :=
  let hi := pull8 s
  let lo := pull8 hi.2
  (hi.1 ++ lo.1, lo.2)

/-! ### Taking an exception, and returning from one (60_exceptions.md) -/

/-- `push_frame()`: the seven-byte frame pc, X, A, B, CCR (60_exceptions.md R310). -/
def pushFrame (s : State) : State :=
  push8 s.ccr.toByte (push8 s.b (push8 s.a (push16 s.x (push16 s.pc s))))

/-- Enter a handler: I <- 1, then pc <- MemRead(vec, 2) (60_exceptions.md R311, R317, 44_system.md R279). -/
def enterHandler (vec : Word) (s : State) : State :=
  let target := memRead16 vec (s.setCcr { s.ccr with i := true })
  target.2.jump target.1

/-- Take an interrupt: push the frame and enter the handler. The whole of SWI (44_system.md R279), and of a dispatch but
for its cycles (60_exceptions.md R311). -/
def takeInterrupt (vec : Word) (s : State) : State :=
  enterHandler vec (pushFrame s)

/-- Return from an interrupt: pull CCR, B, A, X, pc, the inverse of `pushFrame` (44_system.md R280). -/
def returnFromInterrupt (s : State) : State :=
  let cc := pull8 s
  let b := pull8 (cc.2.setCcr (Ccr.ofByte cc.1))
  let a := pull8 (b.2.setAcc .b b.1)
  let x := pull16 (a.2.setAcc .a a.1)
  let target := pull16 (x.2.setReg16 .x x.1)
  target.2.jump target.1

/-- `raise Crash(op, a)`: the crashed flag is set, pc is left at the illegal byte, nothing else changes
(60_exceptions.md R301; log 12). -/
def raiseCrash (addr : Word) (s : State) : State :=
  { s with crashed := true, pc := addr }

/-! ### Interrupt requests (60_exceptions.md R304 to R308) -/

/-- `ocf_irq` = OCF and EOCI, TCSR bit 3 (60_exceptions.md R304). -/
def Timer.irq (t : Timer) : Bool :=
  t.ocf && t.tcsrLo.getLsbD 3

/-- `sci_irq`: RIE, bit 4, with RDRF or ORFE; TIE, bit 2, with TDRE (60_exceptions.md R305). -/
def Serial.irq (p : Serial) : Bool :=
  (p.trcsrLo.getLsbD 4 && (p.rdrf || p.orfe)) || (p.trcsrLo.getLsbD 2 && p.tdre)

/-- The overflow's request, with `HAS_TOF` alone: TOF and ETOI, TCSR bit 2 (93_implementation_defined.md A7; log 22). -/
def Timer.overflowIrq (t : Timer) : Bool :=
  hasTof && t.tof && t.tcsrLo.getLsbD 2

/-- The vector of the pending source, OCF before SCI (60_exceptions.md R306, R308, R313); with `HAS_TOF` the overflow between
the two (93_implementation_defined.md A13). -/
def State.pendingVector (s : State) : Option Word :=
  if s.timer.irq then some vecOcf
  else if s.timer.overflowIrq then some vecTof
  else if s.serial.irq then some vecSci
  else none

end Sys2Proof.Machine
end

