-- ==== Sys2Proof/Machine/Operands.lean ====
section
/-! DEFINITION. The operand forms of the addressing modes: effective addresses and operands (30_encoding.md R95 to R100,
R106, R109 to R111). A form carries the operand bytes, already fetched. -/

namespace Sys2Proof.Machine

open Sys2Proof

/-- A memory operand: direct, indexed or extended (30_encoding.md R95 to R97). -/
inductive Ea where
  /-- `dd`: the address is zero-extended. -/
  | dir (dd : Byte)
  /-- `ff,X`: the unsigned offset is added to X. -/
  | idx (ff : Byte)
  /-- `hhll`: the address itself. -/
  | ext (hhll : Word)
  deriving DecidableEq, Repr

/-- `ea(mode)`: the effective address (30_encoding.md R109). -/
def Ea.addr (m : Ea) (s : State) : Word :=
  match m with
  | .dir dd => dd.zeroExtend 16
  | .idx ff => s.x + ff.zeroExtend 16
  | .ext hhll => hhll

/-- How many operand bytes a memory operand has. -/
def Ea.size : Ea → Nat
  | .dir _ => 1
  | .idx _ => 1
  | .ext _ => 2

/-- A memory operand of the instructions that have no direct form: indexed or extended. -/
inductive EaIX where
  /-- `ff,X`. -/
  | idx (ff : Byte)
  /-- `hhll`. -/
  | ext (hhll : Word)
  deriving DecidableEq, Repr

/-- An indexed or extended operand as a memory operand. -/
def EaIX.toEa : EaIX → Ea
  | .idx ff => .idx ff
  | .ext hhll => .ext hhll

/-- A memory operand of the instructions with a mask byte: direct or indexed (30_encoding.md R99, R100). -/
inductive EaDX where
  /-- `dd`. -/
  | dir (dd : Byte)
  /-- `ff,X`. -/
  | idx (ff : Byte)
  deriving DecidableEq, Repr

/-- A direct or indexed operand as a memory operand. -/
def EaDX.toEa : EaDX → Ea
  | .dir dd => .dir dd
  | .idx ff => .idx ff

/-- An 8-bit source: an immediate byte or a byte of memory (30_encoding.md R110). -/
inductive Src8 where
  /-- `#ii`. -/
  | imm (ii : Byte)
  /-- A byte of memory. -/
  | mem (m : Ea)
  deriving DecidableEq, Repr

/-- `operand8(mode)` and the state after reading it (30_encoding.md R110). -/
def operand8 (src : Src8) (s : State) : Byte × State :=
  match src with
  | .imm ii => (ii, s)
  | .mem m => memRead (m.addr s) s

/-- The length of an instruction with an 8-bit source. -/
def Src8.length : Src8 → Nat
  | .imm _ => 2
  | .mem m => 1 + m.size

/-- A 16-bit source: an immediate word or two bytes of memory (30_encoding.md R111). -/
inductive Src16 where
  /-- `#jjkk`. -/
  | imm (jjkk : Word)
  /-- Two bytes of memory. -/
  | mem (m : Ea)
  deriving DecidableEq, Repr

/-- `operand16(mode)` and the state after reading it (30_encoding.md R111). -/
def operand16 (src : Src16) (s : State) : Word × State :=
  match src with
  | .imm jjkk => (jjkk, s)
  | .mem m => memRead16 (m.addr s) s

/-- The length of an instruction with a 16-bit source. -/
def Src16.length : Src16 → Nat
  | .imm _ => 3
  | .mem m => 1 + m.size

/-- The target of a relative instruction at `addr`: the displacement is sign-extended and counts from the byte after it
(43_control_transfer.md R240). -/
def relTarget (addr : Word) (rr : Byte) : Word :=
  addr + 2 + rr.signExtend 16

end Sys2Proof.Machine
end

