-- ==== Sys2Proof/Machine/Arithmetic.lean ====
section
/-! DEFINITION. Arithmetic, compare and test instructions (41_arithmetic.md), and the shared shapes of the instructions
with two operands and of those that modify one. -/

namespace Sys2Proof.Machine

open Sys2Proof

/-- An operation of an accumulator and an 8-bit source, the result in the accumulator (R157 to R167). -/
def accOp8 (f : Ccr → Byte → Byte → Byte × Ccr) (r : Acc) (src : Src8) (s : State) : State :=
  let m := operand8 src s
  let out := f m.2.ccr (m.2.acc r) m.1
  ((m.2.setAcc r out.1).setCcr out.2).advance src.length

/-- The same, the result discarded: only flags are written (R185, R186). -/
def accTest8 (f : Ccr → Byte → Byte → Byte × Ccr) (r : Acc) (src : Src8) (s : State) : State :=
  let m := operand8 src s
  (m.2.setCcr (f m.2.ccr (m.2.acc r) m.1).2).advance src.length

/-- An operation of A and B, the result in A (R161, R168). -/
def accFromB (f : Ccr → Byte → Byte → Byte × Ccr) (s : State) : State :=
  let out := f s.ccr s.a s.b
  ((s.setAcc .a out.1).setCcr out.2).advance 1

/-- An operation of D and a 16-bit source, the result in D (R162, R169). -/
def dOp16 (f : Ccr → Word → Word → Word × Ccr) (src : Src16) (s : State) : State :=
  let m := operand16 src s
  let out := f m.2.ccr m.2.d m.1
  ((m.2.setD out.1).setCcr out.2).advance src.length

/-- Compare X with a 16-bit source (R188). -/
def compareX (src : Src16) (s : State) : State :=
  let m := operand16 src s
  (m.2.setCcr (sub16 m.2.ccr m.2.x m.1).2).advance src.length

/-- An operation on one accumulator (R172, R175, R178). -/
def accUnary (f : Ccr → Byte → Byte × Ccr) (r : Acc) (s : State) : State :=
  let out := f s.ccr (s.acc r)
  ((s.setAcc r out.1).setCcr out.2).advance 1

/-- Read, modify and write one byte of memory: one read, then one write of the same address (20_memory.md R73). -/
def modifyByte (f : Ccr → Byte → Byte × Ccr) (m : Ea) (s : State) : State :=
  let addr := m.addr s
  let old := memRead addr s
  let out := f old.2.ccr old.1
  ((memWrite addr out.1 old.2).setCcr out.2).advance (1 + m.size)

/-- Test a byte of memory: one read, no write (R191). -/
def testByte (m : Ea) (s : State) : State :=
  let v := memRead (m.addr s) s
  (v.2.setCcr (v.2.ccr.test v.1)).advance (1 + m.size)

/-- Decimal adjustment of A; V is drawn (R171; log 8). -/
def decimalAdjust (s : State) : State :=
  let anyV := s.drawBit
  let out := daa s.ccr s.a anyV.1
  ((anyV.2.setAcc .a out.1).setCcr out.2).advance 1

/-! ### Addition -/

/-- ADDA #ii (R157). -/
def execAddaImm (ii : Byte) (s : State) : Result :=
  .next (accOp8 (fun cc a m => add8 cc a m false) .a (.imm ii) s)

/-- ADDA dd (R157). -/
def execAddaDir (dd : Byte) (s : State) : Result :=
  .next (accOp8 (fun cc a m => add8 cc a m false) .a (.mem (.dir dd)) s)

/-- ADDA ff,X (R157). -/
def execAddaIdx (ff : Byte) (s : State) : Result :=
  .next (accOp8 (fun cc a m => add8 cc a m false) .a (.mem (.idx ff)) s)

/-- ADDA hhll (R157). -/
def execAddaExt (hhll : Word) (s : State) : Result :=
  .next (accOp8 (fun cc a m => add8 cc a m false) .a (.mem (.ext hhll)) s)

/-- ADDB #ii (R158). -/
def execAddbImm (ii : Byte) (s : State) : Result :=
  .next (accOp8 (fun cc a m => add8 cc a m false) .b (.imm ii) s)

/-- ADDB dd (R158). -/
def execAddbDir (dd : Byte) (s : State) : Result :=
  .next (accOp8 (fun cc a m => add8 cc a m false) .b (.mem (.dir dd)) s)

/-- ADDB ff,X (R158). -/
def execAddbIdx (ff : Byte) (s : State) : Result :=
  .next (accOp8 (fun cc a m => add8 cc a m false) .b (.mem (.idx ff)) s)

/-- ADDB hhll (R158). -/
def execAddbExt (hhll : Word) (s : State) : Result :=
  .next (accOp8 (fun cc a m => add8 cc a m false) .b (.mem (.ext hhll)) s)

/-- ADCA #ii (R159). -/
def execAdcaImm (ii : Byte) (s : State) : Result :=
  .next (accOp8 (fun cc a m => add8 cc a m cc.c) .a (.imm ii) s)

/-- ADCA dd (R159). -/
def execAdcaDir (dd : Byte) (s : State) : Result :=
  .next (accOp8 (fun cc a m => add8 cc a m cc.c) .a (.mem (.dir dd)) s)

/-- ADCA ff,X (R159). -/
def execAdcaIdx (ff : Byte) (s : State) : Result :=
  .next (accOp8 (fun cc a m => add8 cc a m cc.c) .a (.mem (.idx ff)) s)

/-- ADCA hhll (R159). -/
def execAdcaExt (hhll : Word) (s : State) : Result :=
  .next (accOp8 (fun cc a m => add8 cc a m cc.c) .a (.mem (.ext hhll)) s)

/-- ADCB #ii (R160). -/
def execAdcbImm (ii : Byte) (s : State) : Result :=
  .next (accOp8 (fun cc a m => add8 cc a m cc.c) .b (.imm ii) s)

/-- ADCB dd (R160). -/
def execAdcbDir (dd : Byte) (s : State) : Result :=
  .next (accOp8 (fun cc a m => add8 cc a m cc.c) .b (.mem (.dir dd)) s)

/-- ADCB ff,X (R160). -/
def execAdcbIdx (ff : Byte) (s : State) : Result :=
  .next (accOp8 (fun cc a m => add8 cc a m cc.c) .b (.mem (.idx ff)) s)

/-- ADCB hhll (R160). -/
def execAdcbExt (hhll : Word) (s : State) : Result :=
  .next (accOp8 (fun cc a m => add8 cc a m cc.c) .b (.mem (.ext hhll)) s)

/-- ABA (R161). -/
def execAba (s : State) : Result :=
  .next (accFromB (fun cc a m => add8 cc a m false) s)

/-- ADDD #jjkk (R162). -/
def execAdddImm (jjkk : Word) (s : State) : Result :=
  .next (dOp16 add16 (.imm jjkk) s)

/-- ADDD dd (R162). -/
def execAdddDir (dd : Byte) (s : State) : Result :=
  .next (dOp16 add16 (.mem (.dir dd)) s)

/-- ADDD ff,X (R162). -/
def execAdddIdx (ff : Byte) (s : State) : Result :=
  .next (dOp16 add16 (.mem (.idx ff)) s)

/-- ADDD hhll (R162). -/
def execAdddExt (hhll : Word) (s : State) : Result :=
  .next (dOp16 add16 (.mem (.ext hhll)) s)

/-- ABX (R163): no flag is written. -/
def execAbx (s : State) : Result :=
  .next ((s.setReg16 .x (s.x + s.b.zeroExtend 16)).advance 1)

/-! ### Subtraction -/

/-- SUBA #ii (R164). -/
def execSubaImm (ii : Byte) (s : State) : Result :=
  .next (accOp8 (fun cc a m => sub8 cc a m false) .a (.imm ii) s)

/-- SUBA dd (R164). -/
def execSubaDir (dd : Byte) (s : State) : Result :=
  .next (accOp8 (fun cc a m => sub8 cc a m false) .a (.mem (.dir dd)) s)

/-- SUBA ff,X (R164). -/
def execSubaIdx (ff : Byte) (s : State) : Result :=
  .next (accOp8 (fun cc a m => sub8 cc a m false) .a (.mem (.idx ff)) s)

/-- SUBA hhll (R164). -/
def execSubaExt (hhll : Word) (s : State) : Result :=
  .next (accOp8 (fun cc a m => sub8 cc a m false) .a (.mem (.ext hhll)) s)

/-- SUBB #ii (R165). -/
def execSubbImm (ii : Byte) (s : State) : Result :=
  .next (accOp8 (fun cc a m => sub8 cc a m false) .b (.imm ii) s)

/-- SUBB dd (R165). -/
def execSubbDir (dd : Byte) (s : State) : Result :=
  .next (accOp8 (fun cc a m => sub8 cc a m false) .b (.mem (.dir dd)) s)

/-- SUBB ff,X (R165). -/
def execSubbIdx (ff : Byte) (s : State) : Result :=
  .next (accOp8 (fun cc a m => sub8 cc a m false) .b (.mem (.idx ff)) s)

/-- SUBB hhll (R165). -/
def execSubbExt (hhll : Word) (s : State) : Result :=
  .next (accOp8 (fun cc a m => sub8 cc a m false) .b (.mem (.ext hhll)) s)

/-- SBCA #ii (R166). -/
def execSbcaImm (ii : Byte) (s : State) : Result :=
  .next (accOp8 (fun cc a m => sub8 cc a m cc.c) .a (.imm ii) s)

/-- SBCA dd (R166). -/
def execSbcaDir (dd : Byte) (s : State) : Result :=
  .next (accOp8 (fun cc a m => sub8 cc a m cc.c) .a (.mem (.dir dd)) s)

/-- SBCA ff,X (R166). -/
def execSbcaIdx (ff : Byte) (s : State) : Result :=
  .next (accOp8 (fun cc a m => sub8 cc a m cc.c) .a (.mem (.idx ff)) s)

/-- SBCA hhll (R166). -/
def execSbcaExt (hhll : Word) (s : State) : Result :=
  .next (accOp8 (fun cc a m => sub8 cc a m cc.c) .a (.mem (.ext hhll)) s)

/-- SBCB #ii (R167). -/
def execSbcbImm (ii : Byte) (s : State) : Result :=
  .next (accOp8 (fun cc a m => sub8 cc a m cc.c) .b (.imm ii) s)

/-- SBCB dd (R167). -/
def execSbcbDir (dd : Byte) (s : State) : Result :=
  .next (accOp8 (fun cc a m => sub8 cc a m cc.c) .b (.mem (.dir dd)) s)

/-- SBCB ff,X (R167). -/
def execSbcbIdx (ff : Byte) (s : State) : Result :=
  .next (accOp8 (fun cc a m => sub8 cc a m cc.c) .b (.mem (.idx ff)) s)

/-- SBCB hhll (R167). -/
def execSbcbExt (hhll : Word) (s : State) : Result :=
  .next (accOp8 (fun cc a m => sub8 cc a m cc.c) .b (.mem (.ext hhll)) s)

/-- SBA (R168). -/
def execSba (s : State) : Result :=
  .next (accFromB (fun cc a m => sub8 cc a m false) s)

/-- SUBD #jjkk (R169). -/
def execSubdImm (jjkk : Word) (s : State) : Result :=
  .next (dOp16 sub16 (.imm jjkk) s)

/-- SUBD dd (R169). -/
def execSubdDir (dd : Byte) (s : State) : Result :=
  .next (dOp16 sub16 (.mem (.dir dd)) s)

/-- SUBD ff,X (R169). -/
def execSubdIdx (ff : Byte) (s : State) : Result :=
  .next (dOp16 sub16 (.mem (.idx ff)) s)

/-- SUBD hhll (R169). -/
def execSubdExt (hhll : Word) (s : State) : Result :=
  .next (dOp16 sub16 (.mem (.ext hhll)) s)

/-! ### Multiplication and decimal adjustment -/

/-- MUL (R170). -/
def execMul (s : State) : Result :=
  .next (((s.setD (mul8 s.ccr s.a s.b).1).setCcr (mul8 s.ccr s.a s.b).2).advance 1)

/-- DAA (R171): V is an arbitrary value (log 8). -/
def execDaa (s : State) : Result :=
  .next (decimalAdjust s)

/-! ### Negation, increment, decrement -/

/-- NEGA (R172). -/
def execNega (s : State) : Result :=
  .next (accUnary neg8 .a s)

/-- NEGB (R173). -/
def execNegb (s : State) : Result :=
  .next (accUnary neg8 .b s)

/-- NEG ff,X (R174). -/
def execNegIdx (ff : Byte) (s : State) : Result :=
  .next (modifyByte neg8 (.idx ff) s)

/-- NEG hhll (R174). -/
def execNegExt (hhll : Word) (s : State) : Result :=
  .next (modifyByte neg8 (.ext hhll) s)

/-- INCA (R175). -/
def execInca (s : State) : Result :=
  .next (accUnary inc8 .a s)

/-- INCB (R176). -/
def execIncb (s : State) : Result :=
  .next (accUnary inc8 .b s)

/-- INC ff,X (R177). -/
def execIncIdx (ff : Byte) (s : State) : Result :=
  .next (modifyByte inc8 (.idx ff) s)

/-- INC hhll (R177). -/
def execIncExt (hhll : Word) (s : State) : Result :=
  .next (modifyByte inc8 (.ext hhll) s)

/-- DECA (R178). -/
def execDeca (s : State) : Result :=
  .next (accUnary dec8 .a s)

/-- DECB (R179). -/
def execDecb (s : State) : Result :=
  .next (accUnary dec8 .b s)

/-- DEC ff,X (R180). -/
def execDecIdx (ff : Byte) (s : State) : Result :=
  .next (modifyByte dec8 (.idx ff) s)

/-- DEC hhll (R180). -/
def execDecExt (hhll : Word) (s : State) : Result :=
  .next (modifyByte dec8 (.ext hhll) s)

/-- INX (R181): of the flags Z only. -/
def execInx (s : State) : Result :=
  .next (((s.setReg16 .x (s.x + 1)).setCcr { s.ccr with z := decide (s.x + 1 = 0) }).advance 1)

/-- DEX (R182): of the flags Z only. -/
def execDex (s : State) : Result :=
  .next (((s.setReg16 .x (s.x - 1)).setCcr { s.ccr with z := decide (s.x - 1 = 0) }).advance 1)

/-- INS (R183): no flag is written. -/
def execIns (s : State) : Result :=
  .next ((s.setReg16 .sp (s.sp + 1)).advance 1)

/-- DES (R184): no flag is written. -/
def execDes (s : State) : Result :=
  .next ((s.setReg16 .sp (s.sp - 1)).advance 1)

/-! ### Comparison and test -/

/-- CMPA #ii (R185). -/
def execCmpaImm (ii : Byte) (s : State) : Result :=
  .next (accTest8 (fun cc a m => sub8 cc a m false) .a (.imm ii) s)

/-- CMPA dd (R185). -/
def execCmpaDir (dd : Byte) (s : State) : Result :=
  .next (accTest8 (fun cc a m => sub8 cc a m false) .a (.mem (.dir dd)) s)

/-- CMPA ff,X (R185). -/
def execCmpaIdx (ff : Byte) (s : State) : Result :=
  .next (accTest8 (fun cc a m => sub8 cc a m false) .a (.mem (.idx ff)) s)

/-- CMPA hhll (R185). -/
def execCmpaExt (hhll : Word) (s : State) : Result :=
  .next (accTest8 (fun cc a m => sub8 cc a m false) .a (.mem (.ext hhll)) s)

/-- CMPB #ii (R186). -/
def execCmpbImm (ii : Byte) (s : State) : Result :=
  .next (accTest8 (fun cc a m => sub8 cc a m false) .b (.imm ii) s)

/-- CMPB dd (R186). -/
def execCmpbDir (dd : Byte) (s : State) : Result :=
  .next (accTest8 (fun cc a m => sub8 cc a m false) .b (.mem (.dir dd)) s)

/-- CMPB ff,X (R186). -/
def execCmpbIdx (ff : Byte) (s : State) : Result :=
  .next (accTest8 (fun cc a m => sub8 cc a m false) .b (.mem (.idx ff)) s)

/-- CMPB hhll (R186). -/
def execCmpbExt (hhll : Word) (s : State) : Result :=
  .next (accTest8 (fun cc a m => sub8 cc a m false) .b (.mem (.ext hhll)) s)

/-- CBA (R187). -/
def execCba (s : State) : Result :=
  .next ((s.setCcr (sub8 s.ccr s.a s.b false).2).advance 1)

/-- CPX #jjkk (R188). -/
def execCpxImm (jjkk : Word) (s : State) : Result :=
  .next (compareX (.imm jjkk) s)

/-- CPX dd (R188). -/
def execCpxDir (dd : Byte) (s : State) : Result :=
  .next (compareX (.mem (.dir dd)) s)

/-- CPX ff,X (R188). -/
def execCpxIdx (ff : Byte) (s : State) : Result :=
  .next (compareX (.mem (.idx ff)) s)

/-- CPX hhll (R188). -/
def execCpxExt (hhll : Word) (s : State) : Result :=
  .next (compareX (.mem (.ext hhll)) s)

/-- TSTA (R189). -/
def execTsta (s : State) : Result :=
  .next ((s.setCcr (s.ccr.test s.a)).advance 1)

/-- TSTB (R190). -/
def execTstb (s : State) : Result :=
  .next ((s.setCcr (s.ccr.test s.b)).advance 1)

/-- TST ff,X (R191). -/
def execTstIdx (ff : Byte) (s : State) : Result :=
  .next (testByte (.idx ff) s)

/-- TST hhll (R191). -/
def execTstExt (hhll : Word) (s : State) : Result :=
  .next (testByte (.ext hhll) s)

end Sys2Proof.Machine
end

