-- ==== Sys2Proof/Machine/ControlTransfer.lean ====
section
/-! DEFINITION. Branch, jump and subroutine instructions (43_control_transfer.md). -/

namespace Sys2Proof.Machine

open Sys2Proof

/-- A conditional branch: pc is the target if the test holds, else the next instruction; no flag is written (R241). -/
def branch (k : Cond) (rr : Byte) (s : State) : State :=
  if k.holds s.ccr then s.jump (relTarget s.pc rr) else s.advance 2

/-- Push the return address, `len` bytes on, and go to the target (R258, R260). -/
def callSubroutine (len : Nat) (target : Word) (s : State) : State :=
  (push16 (s.pc + BitVec.ofNat 16 len) s).jump target

/-! ### Branches -/

/-- BRA rr (R242). -/
def execBra (rr : Byte) (s : State) : Result :=
  .next (branch .ra rr s)

/-- BRN rr (R243). -/
def execBrn (rr : Byte) (s : State) : Result :=
  .next (branch .rn rr s)

/-- BHI rr (R244). -/
def execBhi (rr : Byte) (s : State) : Result :=
  .next (branch .hi rr s)

/-- BLS rr (R245). -/
def execBls (rr : Byte) (s : State) : Result :=
  .next (branch .ls rr s)

/-- BCC rr (R246). -/
def execBcc (rr : Byte) (s : State) : Result :=
  .next (branch .cc rr s)

/-- BCS rr (R247). -/
def execBcs (rr : Byte) (s : State) : Result :=
  .next (branch .cs rr s)

/-- BNE rr (R248). -/
def execBne (rr : Byte) (s : State) : Result :=
  .next (branch .ne rr s)

/-- BEQ rr (R249). -/
def execBeq (rr : Byte) (s : State) : Result :=
  .next (branch .eq rr s)

/-- BVC rr (R250). -/
def execBvc (rr : Byte) (s : State) : Result :=
  .next (branch .vc rr s)

/-- BVS rr (R251). -/
def execBvs (rr : Byte) (s : State) : Result :=
  .next (branch .vs rr s)

/-- BPL rr (R252). -/
def execBpl (rr : Byte) (s : State) : Result :=
  .next (branch .pl rr s)

/-- BMI rr (R253). -/
def execBmi (rr : Byte) (s : State) : Result :=
  .next (branch .mi rr s)

/-- BGE rr (R254). -/
def execBge (rr : Byte) (s : State) : Result :=
  .next (branch .ge rr s)

/-- BLT rr (R255). -/
def execBlt (rr : Byte) (s : State) : Result :=
  .next (branch .lt rr s)

/-- BGT rr (R256). -/
def execBgt (rr : Byte) (s : State) : Result :=
  .next (branch .gt rr s)

/-- BLE rr (R257). -/
def execBle (rr : Byte) (s : State) : Result :=
  .next (branch .le rr s)

/-! ### Subroutines and jumps -/

/-- BSR rr (R258). -/
def execBsr (rr : Byte) (s : State) : Result :=
  .next (callSubroutine 2 (relTarget s.pc rr) s)

/-- JSR dd (R260). -/
def execJsrDir (dd : Byte) (s : State) : Result :=
  .next (callSubroutine 2 (Ea.addr (.dir dd) s) s)

/-- JSR ff,X (R260). -/
def execJsrIdx (ff : Byte) (s : State) : Result :=
  .next (callSubroutine 2 (Ea.addr (.idx ff) s) s)

/-- JSR hhll (R260). -/
def execJsrExt (hhll : Word) (s : State) : Result :=
  .next (callSubroutine 3 (Ea.addr (.ext hhll) s) s)

/-- JMP ff,X (R259): the target is the address itself. -/
def execJmpIdx (ff : Byte) (s : State) : Result :=
  .next (s.jump (Ea.addr (.idx ff) s))

/-- JMP hhll (R259): the target is the address itself. -/
def execJmpExt (hhll : Word) (s : State) : Result :=
  .next (s.jump (Ea.addr (.ext hhll) s))

/-- RTS (R261). -/
def execRts (s : State) : Result :=
  .next ((pull16 s).2.jump (pull16 s).1)

end Sys2Proof.Machine
end

