-- ==== Sys2Proof/Machine/LoadStore.lean ====
section
/-! DEFINITION. Load, store, transfer, stack and clear instructions (40_load_store_transfer.md). Each meaning takes the
state at the instruction's first byte and moves pc past the instruction. -/

namespace Sys2Proof.Machine

open Sys2Proof

/-- Load an accumulator from an 8-bit source (R120, R121). -/
def load8 (r : Acc) (src : Src8) (s : State) : State :=
  let m := operand8 src s
  ((m.2.setAcc r m.1).setCcr (m.2.ccr.move8 m.1)).advance src.length

/-- Load D, X or SP from a 16-bit source (R122 to R124). -/
def load16 (r : Reg16) (src : Src16) (s : State) : State :=
  let m := operand16 src s
  ((m.2.setReg16 r m.1).setCcr (m.2.ccr.move16 m.1)).advance src.length

/-- Store an accumulator; the destination is not read (R125, R126). -/
def store8 (r : Acc) (m : Ea) (s : State) : State :=
  let v := s.acc r
  ((memWrite (m.addr s) v s).setCcr (s.ccr.move8 v)).advance (1 + m.size)

/-- Store D, X or SP (R127 to R129). -/
def store16 (r : Reg16) (m : Ea) (s : State) : State :=
  let v := s.reg16 r
  ((memWrite16 (m.addr s) v s).setCcr (s.ccr.move16 v)).advance (1 + m.size)

/-- Pull an accumulator; no flag is written (R138, R139). -/
def pullAcc (r : Acc) (s : State) : State :=
  let m := pull8 s
  (m.2.setAcc r m.1).advance 1

/-- Clear a byte of memory, with no read before the write (R143). -/
def clearByte (m : Ea) (s : State) : State :=
  ((memWrite (m.addr s) 0x00 s).setCcr s.ccr.clear).advance (1 + m.size)

/-! ### Loads -/

/-- LDAA #ii (R120). -/
def execLdaaImm (ii : Byte) (s : State) : Result :=
  .next (load8 .a (.imm ii) s)

/-- LDAA dd (R120). -/
def execLdaaDir (dd : Byte) (s : State) : Result :=
  .next (load8 .a (.mem (.dir dd)) s)

/-- LDAA ff,X (R120). -/
def execLdaaIdx (ff : Byte) (s : State) : Result :=
  .next (load8 .a (.mem (.idx ff)) s)

/-- LDAA hhll (R120). -/
def execLdaaExt (hhll : Word) (s : State) : Result :=
  .next (load8 .a (.mem (.ext hhll)) s)

/-- LDAB #ii (R121). -/
def execLdabImm (ii : Byte) (s : State) : Result :=
  .next (load8 .b (.imm ii) s)

/-- LDAB dd (R121). -/
def execLdabDir (dd : Byte) (s : State) : Result :=
  .next (load8 .b (.mem (.dir dd)) s)

/-- LDAB ff,X (R121). -/
def execLdabIdx (ff : Byte) (s : State) : Result :=
  .next (load8 .b (.mem (.idx ff)) s)

/-- LDAB hhll (R121). -/
def execLdabExt (hhll : Word) (s : State) : Result :=
  .next (load8 .b (.mem (.ext hhll)) s)

/-- LDD #jjkk (R122). -/
def execLddImm (jjkk : Word) (s : State) : Result :=
  .next (load16 .d (.imm jjkk) s)

/-- LDD dd (R122). -/
def execLddDir (dd : Byte) (s : State) : Result :=
  .next (load16 .d (.mem (.dir dd)) s)

/-- LDD ff,X (R122). -/
def execLddIdx (ff : Byte) (s : State) : Result :=
  .next (load16 .d (.mem (.idx ff)) s)

/-- LDD hhll (R122). -/
def execLddExt (hhll : Word) (s : State) : Result :=
  .next (load16 .d (.mem (.ext hhll)) s)

/-- LDX #jjkk (R123). -/
def execLdxImm (jjkk : Word) (s : State) : Result :=
  .next (load16 .x (.imm jjkk) s)

/-- LDX dd (R123). -/
def execLdxDir (dd : Byte) (s : State) : Result :=
  .next (load16 .x (.mem (.dir dd)) s)

/-- LDX ff,X (R123). -/
def execLdxIdx (ff : Byte) (s : State) : Result :=
  .next (load16 .x (.mem (.idx ff)) s)

/-- LDX hhll (R123). -/
def execLdxExt (hhll : Word) (s : State) : Result :=
  .next (load16 .x (.mem (.ext hhll)) s)

/-- LDS #jjkk (R124). -/
def execLdsImm (jjkk : Word) (s : State) : Result :=
  .next (load16 .sp (.imm jjkk) s)

/-- LDS dd (R124). -/
def execLdsDir (dd : Byte) (s : State) : Result :=
  .next (load16 .sp (.mem (.dir dd)) s)

/-- LDS ff,X (R124). -/
def execLdsIdx (ff : Byte) (s : State) : Result :=
  .next (load16 .sp (.mem (.idx ff)) s)

/-- LDS hhll (R124). -/
def execLdsExt (hhll : Word) (s : State) : Result :=
  .next (load16 .sp (.mem (.ext hhll)) s)

/-! ### Stores -/

/-- STAA dd (R125). -/
def execStaaDir (dd : Byte) (s : State) : Result :=
  .next (store8 .a (.dir dd) s)

/-- STAA ff,X (R125). -/
def execStaaIdx (ff : Byte) (s : State) : Result :=
  .next (store8 .a (.idx ff) s)

/-- STAA hhll (R125). -/
def execStaaExt (hhll : Word) (s : State) : Result :=
  .next (store8 .a (.ext hhll) s)

/-- STAB dd (R126). -/
def execStabDir (dd : Byte) (s : State) : Result :=
  .next (store8 .b (.dir dd) s)

/-- STAB ff,X (R126). -/
def execStabIdx (ff : Byte) (s : State) : Result :=
  .next (store8 .b (.idx ff) s)

/-- STAB hhll (R126). -/
def execStabExt (hhll : Word) (s : State) : Result :=
  .next (store8 .b (.ext hhll) s)

/-- STD dd (R127). -/
def execStdDir (dd : Byte) (s : State) : Result :=
  .next (store16 .d (.dir dd) s)

/-- STD ff,X (R127). -/
def execStdIdx (ff : Byte) (s : State) : Result :=
  .next (store16 .d (.idx ff) s)

/-- STD hhll (R127). -/
def execStdExt (hhll : Word) (s : State) : Result :=
  .next (store16 .d (.ext hhll) s)

/-- STX dd (R128). -/
def execStxDir (dd : Byte) (s : State) : Result :=
  .next (store16 .x (.dir dd) s)

/-- STX ff,X (R128). -/
def execStxIdx (ff : Byte) (s : State) : Result :=
  .next (store16 .x (.idx ff) s)

/-- STX hhll (R128). -/
def execStxExt (hhll : Word) (s : State) : Result :=
  .next (store16 .x (.ext hhll) s)

/-- STS dd (R129). -/
def execStsDir (dd : Byte) (s : State) : Result :=
  .next (store16 .sp (.dir dd) s)

/-- STS ff,X (R129). -/
def execStsIdx (ff : Byte) (s : State) : Result :=
  .next (store16 .sp (.idx ff) s)

/-- STS hhll (R129). -/
def execStsExt (hhll : Word) (s : State) : Result :=
  .next (store16 .sp (.ext hhll) s)

/-! ### Transfers -/

/-- TAB (R130). -/
def execTab (s : State) : Result :=
  .next (((s.setAcc .b s.a).setCcr (s.ccr.move8 s.a)).advance 1)

/-- TBA (R131). -/
def execTba (s : State) : Result :=
  .next (((s.setAcc .a s.b).setCcr (s.ccr.move8 s.b)).advance 1)

/-- TSX (R132): no flag is written. -/
def execTsx (s : State) : Result :=
  .next ((s.setReg16 .x (s.sp + 1)).advance 1)

/-- TXS (R133): no flag is written. -/
def execTxs (s : State) : Result :=
  .next ((s.setReg16 .sp (s.x - 1)).advance 1)

/-- XGDX (R134): no flag is written. -/
def execXgdx (s : State) : Result :=
  .next (((s.setD s.x).setReg16 .x s.d).advance 1)

/-! ### The stack -/

/-- PSHA (R135). -/
def execPsha (s : State) : Result :=
  .next ((push8 s.a s).advance 1)

/-- PSHB (R136). -/
def execPshb (s : State) : Result :=
  .next ((push8 s.b s).advance 1)

/-- PSHX (R137). -/
def execPshx (s : State) : Result :=
  .next ((push16 s.x s).advance 1)

/-- PULA (R138). -/
def execPula (s : State) : Result :=
  .next (pullAcc .a s)

/-- PULB (R139). -/
def execPulb (s : State) : Result :=
  .next (pullAcc .b s)

/-- PULX (R140). -/
def execPulx (s : State) : Result :=
  .next (((pull16 s).2.setReg16 .x (pull16 s).1).advance 1)

/-! ### Clears -/

/-- CLRA (R141). -/
def execClra (s : State) : Result :=
  .next (((s.setAcc .a 0x00).setCcr s.ccr.clear).advance 1)

/-- CLRB (R142). -/
def execClrb (s : State) : Result :=
  .next (((s.setAcc .b 0x00).setCcr s.ccr.clear).advance 1)

/-- CLR ff,X (R143). -/
def execClrIdx (ff : Byte) (s : State) : Result :=
  .next (clearByte (.idx ff) s)

/-- CLR hhll (R143). -/
def execClrExt (hhll : Word) (s : State) : Result :=
  .next (clearByte (.ext hhll) s)

end Sys2Proof.Machine
end

