-- ==== Sys2Proof/Machine/LogicShift.lean ====
section
/-! DEFINITION. Logic, shift, rotate and bit-manipulation instructions (42_logic_shift_bit.md), over the shared shapes of
Machine/Arithmetic.lean. -/

namespace Sys2Proof.Machine

open Sys2Proof

/-- AIM, OIM, EIM: the mask byte, then the address byte; one read and one write of the byte (R230 to R232). -/
def maskByte (f : Ccr → Byte → Byte → Byte × Ccr) (mask : Byte) (m : Ea) (s : State) : State :=
  (modifyByte (fun cc v => f cc v mask) m s).advance 1

/-- TIM: one read, no write (R233). -/
def testMask (mask : Byte) (m : Ea) (s : State) : State :=
  let v := memRead (m.addr s) s
  (v.2.setCcr (and8 v.2.ccr v.1 mask).2).advance (2 + m.size)

/-! ### Logic on an accumulator -/

/-- ANDA #ii (R202). -/
def execAndaImm (ii : Byte) (s : State) : Result :=
  .next (accOp8 and8 .a (.imm ii) s)

/-- ANDA dd (R202). -/
def execAndaDir (dd : Byte) (s : State) : Result :=
  .next (accOp8 and8 .a (.mem (.dir dd)) s)

/-- ANDA ff,X (R202). -/
def execAndaIdx (ff : Byte) (s : State) : Result :=
  .next (accOp8 and8 .a (.mem (.idx ff)) s)

/-- ANDA hhll (R202). -/
def execAndaExt (hhll : Word) (s : State) : Result :=
  .next (accOp8 and8 .a (.mem (.ext hhll)) s)

/-- ANDB #ii (R203). -/
def execAndbImm (ii : Byte) (s : State) : Result :=
  .next (accOp8 and8 .b (.imm ii) s)

/-- ANDB dd (R203). -/
def execAndbDir (dd : Byte) (s : State) : Result :=
  .next (accOp8 and8 .b (.mem (.dir dd)) s)

/-- ANDB ff,X (R203). -/
def execAndbIdx (ff : Byte) (s : State) : Result :=
  .next (accOp8 and8 .b (.mem (.idx ff)) s)

/-- ANDB hhll (R203). -/
def execAndbExt (hhll : Word) (s : State) : Result :=
  .next (accOp8 and8 .b (.mem (.ext hhll)) s)

/-- ORAA #ii (R204). -/
def execOraaImm (ii : Byte) (s : State) : Result :=
  .next (accOp8 or8 .a (.imm ii) s)

/-- ORAA dd (R204). -/
def execOraaDir (dd : Byte) (s : State) : Result :=
  .next (accOp8 or8 .a (.mem (.dir dd)) s)

/-- ORAA ff,X (R204). -/
def execOraaIdx (ff : Byte) (s : State) : Result :=
  .next (accOp8 or8 .a (.mem (.idx ff)) s)

/-- ORAA hhll (R204). -/
def execOraaExt (hhll : Word) (s : State) : Result :=
  .next (accOp8 or8 .a (.mem (.ext hhll)) s)

/-- ORAB #ii (R205). -/
def execOrabImm (ii : Byte) (s : State) : Result :=
  .next (accOp8 or8 .b (.imm ii) s)

/-- ORAB dd (R205). -/
def execOrabDir (dd : Byte) (s : State) : Result :=
  .next (accOp8 or8 .b (.mem (.dir dd)) s)

/-- ORAB ff,X (R205). -/
def execOrabIdx (ff : Byte) (s : State) : Result :=
  .next (accOp8 or8 .b (.mem (.idx ff)) s)

/-- ORAB hhll (R205). -/
def execOrabExt (hhll : Word) (s : State) : Result :=
  .next (accOp8 or8 .b (.mem (.ext hhll)) s)

/-- EORA #ii (R206). -/
def execEoraImm (ii : Byte) (s : State) : Result :=
  .next (accOp8 eor8 .a (.imm ii) s)

/-- EORA dd (R206). -/
def execEoraDir (dd : Byte) (s : State) : Result :=
  .next (accOp8 eor8 .a (.mem (.dir dd)) s)

/-- EORA ff,X (R206). -/
def execEoraIdx (ff : Byte) (s : State) : Result :=
  .next (accOp8 eor8 .a (.mem (.idx ff)) s)

/-- EORA hhll (R206). -/
def execEoraExt (hhll : Word) (s : State) : Result :=
  .next (accOp8 eor8 .a (.mem (.ext hhll)) s)

/-- EORB #ii (R207). -/
def execEorbImm (ii : Byte) (s : State) : Result :=
  .next (accOp8 eor8 .b (.imm ii) s)

/-- EORB dd (R207). -/
def execEorbDir (dd : Byte) (s : State) : Result :=
  .next (accOp8 eor8 .b (.mem (.dir dd)) s)

/-- EORB ff,X (R207). -/
def execEorbIdx (ff : Byte) (s : State) : Result :=
  .next (accOp8 eor8 .b (.mem (.idx ff)) s)

/-- EORB hhll (R207). -/
def execEorbExt (hhll : Word) (s : State) : Result :=
  .next (accOp8 eor8 .b (.mem (.ext hhll)) s)

/-- BITA #ii (R208). -/
def execBitaImm (ii : Byte) (s : State) : Result :=
  .next (accTest8 and8 .a (.imm ii) s)

/-- BITA dd (R208). -/
def execBitaDir (dd : Byte) (s : State) : Result :=
  .next (accTest8 and8 .a (.mem (.dir dd)) s)

/-- BITA ff,X (R208). -/
def execBitaIdx (ff : Byte) (s : State) : Result :=
  .next (accTest8 and8 .a (.mem (.idx ff)) s)

/-- BITA hhll (R208). -/
def execBitaExt (hhll : Word) (s : State) : Result :=
  .next (accTest8 and8 .a (.mem (.ext hhll)) s)

/-- BITB #ii (R209). -/
def execBitbImm (ii : Byte) (s : State) : Result :=
  .next (accTest8 and8 .b (.imm ii) s)

/-- BITB dd (R209). -/
def execBitbDir (dd : Byte) (s : State) : Result :=
  .next (accTest8 and8 .b (.mem (.dir dd)) s)

/-- BITB ff,X (R209). -/
def execBitbIdx (ff : Byte) (s : State) : Result :=
  .next (accTest8 and8 .b (.mem (.idx ff)) s)

/-- BITB hhll (R209). -/
def execBitbExt (hhll : Word) (s : State) : Result :=
  .next (accTest8 and8 .b (.mem (.ext hhll)) s)

/-! ### Complement -/

/-- COMA (R210). -/
def execComa (s : State) : Result :=
  .next (accUnary com8 .a s)

/-- COMB (R211). -/
def execComb (s : State) : Result :=
  .next (accUnary com8 .b s)

/-- COM ff,X (R212). -/
def execComIdx (ff : Byte) (s : State) : Result :=
  .next (modifyByte com8 (.idx ff) s)

/-- COM hhll (R212). -/
def execComExt (hhll : Word) (s : State) : Result :=
  .next (modifyByte com8 (.ext hhll) s)

/-! ### Shifts and rotates -/

/-- ASLA (R213). -/
def execAsla (s : State) : Result :=
  .next (accUnary asl8 .a s)

/-- ASLB (R214). -/
def execAslb (s : State) : Result :=
  .next (accUnary asl8 .b s)

/-- ASL ff,X (R215). -/
def execAslIdx (ff : Byte) (s : State) : Result :=
  .next (modifyByte asl8 (.idx ff) s)

/-- ASL hhll (R215). -/
def execAslExt (hhll : Word) (s : State) : Result :=
  .next (modifyByte asl8 (.ext hhll) s)

/-- ASRA (R216). -/
def execAsra (s : State) : Result :=
  .next (accUnary asr8 .a s)

/-- ASRB (R217). -/
def execAsrb (s : State) : Result :=
  .next (accUnary asr8 .b s)

/-- ASR ff,X (R218). -/
def execAsrIdx (ff : Byte) (s : State) : Result :=
  .next (modifyByte asr8 (.idx ff) s)

/-- ASR hhll (R218). -/
def execAsrExt (hhll : Word) (s : State) : Result :=
  .next (modifyByte asr8 (.ext hhll) s)

/-- LSRA (R219). -/
def execLsra (s : State) : Result :=
  .next (accUnary lsr8 .a s)

/-- LSRB (R220). -/
def execLsrb (s : State) : Result :=
  .next (accUnary lsr8 .b s)

/-- LSR ff,X (R221). -/
def execLsrIdx (ff : Byte) (s : State) : Result :=
  .next (modifyByte lsr8 (.idx ff) s)

/-- LSR hhll (R221). -/
def execLsrExt (hhll : Word) (s : State) : Result :=
  .next (modifyByte lsr8 (.ext hhll) s)

/-- ROLA (R222). -/
def execRola (s : State) : Result :=
  .next (accUnary rol8 .a s)

/-- ROLB (R223). -/
def execRolb (s : State) : Result :=
  .next (accUnary rol8 .b s)

/-- ROL ff,X (R224). -/
def execRolIdx (ff : Byte) (s : State) : Result :=
  .next (modifyByte rol8 (.idx ff) s)

/-- ROL hhll (R224). -/
def execRolExt (hhll : Word) (s : State) : Result :=
  .next (modifyByte rol8 (.ext hhll) s)

/-- RORA (R225). -/
def execRora (s : State) : Result :=
  .next (accUnary ror8 .a s)

/-- RORB (R226). -/
def execRorb (s : State) : Result :=
  .next (accUnary ror8 .b s)

/-- ROR ff,X (R227). -/
def execRorIdx (ff : Byte) (s : State) : Result :=
  .next (modifyByte ror8 (.idx ff) s)

/-- ROR hhll (R227). -/
def execRorExt (hhll : Word) (s : State) : Result :=
  .next (modifyByte ror8 (.ext hhll) s)

/-- ASLD (R228). -/
def execAsld (s : State) : Result :=
  .next (((s.setD (asl16 s.ccr s.d).1).setCcr (asl16 s.ccr s.d).2).advance 1)

/-- LSRD (R229). -/
def execLsrd (s : State) : Result :=
  .next (((s.setD (lsr16 s.ccr s.d).1).setCcr (lsr16 s.ccr s.d).2).advance 1)

/-! ### Immediate to memory -/

/-- AIM #ii,ff,X (R230). -/
def execAimIdx (ii : Byte) (ff : Byte) (s : State) : Result :=
  .next (maskByte and8 ii (.idx ff) s)

/-- AIM #ii,dd (R230). -/
def execAimDir (ii : Byte) (dd : Byte) (s : State) : Result :=
  .next (maskByte and8 ii (.dir dd) s)

/-- OIM #ii,ff,X (R231). -/
def execOimIdx (ii : Byte) (ff : Byte) (s : State) : Result :=
  .next (maskByte or8 ii (.idx ff) s)

/-- OIM #ii,dd (R231). -/
def execOimDir (ii : Byte) (dd : Byte) (s : State) : Result :=
  .next (maskByte or8 ii (.dir dd) s)

/-- EIM #ii,ff,X (R232). -/
def execEimIdx (ii : Byte) (ff : Byte) (s : State) : Result :=
  .next (maskByte eor8 ii (.idx ff) s)

/-- EIM #ii,dd (R232). -/
def execEimDir (ii : Byte) (dd : Byte) (s : State) : Result :=
  .next (maskByte eor8 ii (.dir dd) s)

/-- TIM #ii,ff,X (R233). -/
def execTimIdx (ii : Byte) (ff : Byte) (s : State) : Result :=
  .next (testMask ii (.idx ff) s)

/-- TIM #ii,dd (R233). -/
def execTimDir (ii : Byte) (dd : Byte) (s : State) : Result :=
  .next (testMask ii (.dir dd) s)

end Sys2Proof.Machine
end

