-- ==== Sys2Proof/Machine/System.lean ====
section
/-! DEFINITION. Condition-code, interrupt-control and system instructions, and the illegal opcodes (44_system.md). -/

namespace Sys2Proof.Machine

open Sys2Proof

/-! ### Flags -/

/-- NOP (R270). -/
def execNop (s : State) : Result :=
  .next (s.advance 1)

/-- CLC (R271). -/
def execClc (s : State) : Result :=
  .next ((s.setCcr { s.ccr with c := false }).advance 1)

/-- SEC (R272). -/
def execSec (s : State) : Result :=
  .next ((s.setCcr { s.ccr with c := true }).advance 1)

/-- CLV (R273). -/
def execClv (s : State) : Result :=
  .next ((s.setCcr { s.ccr with v := false }).advance 1)

/-- SEV (R274). -/
def execSev (s : State) : Result :=
  .next ((s.setCcr { s.ccr with v := true }).advance 1)

/-- CLI (R275). -/
def execCli (s : State) : Result :=
  .next ((s.setCcr { s.ccr with i := false }).advance 1)

/-- SEI (R276). -/
def execSei (s : State) : Result :=
  .next ((s.setCcr { s.ccr with i := true }).advance 1)

/-- TAP (R277). -/
def execTap (s : State) : Result :=
  .next ((s.setCcr (Ccr.ofByte s.a)).advance 1)

/-- TPA (R278): no flag is written. -/
def execTpa (s : State) : Result :=
  .next ((s.setAcc .a s.ccr.toByte).advance 1)

/-! ### Interrupts and waiting -/

/-- SWI (R279): the frame holds the address after SWI and the old I. -/
def execSwi (s : State) : Result :=
  .next (takeInterrupt vecSwi (s.advance 1))

/-- RTI (R280). -/
def execRti (s : State) : Result :=
  .next (returnFromInterrupt s)

/-- WAI (R281): the frame holds the address after WAI. -/
def execWai (s : State) : Result :=
  .next ({ pushFrame (s.advance 1) with waitState := .wai })

/-- SLP (R282): nothing is pushed. -/
def execSlp (s : State) : Result :=
  .next ({ s.advance 1 with waitState := .slp })

/-! ### Illegal opcodes -/

/-- ILLEGAL (R283): Crash. The byte's value is recorded nowhere (60_exceptions.md R301). -/
def execIllegal (_op : Byte) (s : State) : Result :=
  .next (raiseCrash s.pc s)

end Sys2Proof.Machine
end

