-- ==== Sys2Proof/Machine/Dispatch.lean ====
section
/-! DEFINITION. `exec`: the meaning of each instruction, one arm per constructor of `Instr`. -/

namespace Sys2Proof.Machine

open Sys2Proof

def exec (i : Instr) (s : State) : Host.Outcome State Fault Refusal :=
  match i with
  | .illegal op => Sys2Proof.Machine.execIllegal op s
  | .nop => Sys2Proof.Machine.execNop s
  | .lsrd => Sys2Proof.Machine.execLsrd s
  | .asld => Sys2Proof.Machine.execAsld s
  | .tap => Sys2Proof.Machine.execTap s
  | .tpa => Sys2Proof.Machine.execTpa s
  | .inx => Sys2Proof.Machine.execInx s
  | .dex => Sys2Proof.Machine.execDex s
  | .clv => Sys2Proof.Machine.execClv s
  | .sev => Sys2Proof.Machine.execSev s
  | .clc => Sys2Proof.Machine.execClc s
  | .sec => Sys2Proof.Machine.execSec s
  | .cli => Sys2Proof.Machine.execCli s
  | .sei => Sys2Proof.Machine.execSei s
  | .sba => Sys2Proof.Machine.execSba s
  | .cba => Sys2Proof.Machine.execCba s
  | .tab => Sys2Proof.Machine.execTab s
  | .tba => Sys2Proof.Machine.execTba s
  | .xgdx => Sys2Proof.Machine.execXgdx s
  | .daa => Sys2Proof.Machine.execDaa s
  | .slp => Sys2Proof.Machine.execSlp s
  | .aba => Sys2Proof.Machine.execAba s
  | .bra rr => Sys2Proof.Machine.execBra rr s
  | .brn rr => Sys2Proof.Machine.execBrn rr s
  | .bhi rr => Sys2Proof.Machine.execBhi rr s
  | .bls rr => Sys2Proof.Machine.execBls rr s
  | .bcc rr => Sys2Proof.Machine.execBcc rr s
  | .bcs rr => Sys2Proof.Machine.execBcs rr s
  | .bne rr => Sys2Proof.Machine.execBne rr s
  | .beq rr => Sys2Proof.Machine.execBeq rr s
  | .bvc rr => Sys2Proof.Machine.execBvc rr s
  | .bvs rr => Sys2Proof.Machine.execBvs rr s
  | .bpl rr => Sys2Proof.Machine.execBpl rr s
  | .bmi rr => Sys2Proof.Machine.execBmi rr s
  | .bge rr => Sys2Proof.Machine.execBge rr s
  | .blt rr => Sys2Proof.Machine.execBlt rr s
  | .bgt rr => Sys2Proof.Machine.execBgt rr s
  | .ble rr => Sys2Proof.Machine.execBle rr s
  | .tsx => Sys2Proof.Machine.execTsx s
  | .ins => Sys2Proof.Machine.execIns s
  | .pula => Sys2Proof.Machine.execPula s
  | .pulb => Sys2Proof.Machine.execPulb s
  | .des => Sys2Proof.Machine.execDes s
  | .txs => Sys2Proof.Machine.execTxs s
  | .psha => Sys2Proof.Machine.execPsha s
  | .pshb => Sys2Proof.Machine.execPshb s
  | .pulx => Sys2Proof.Machine.execPulx s
  | .rts => Sys2Proof.Machine.execRts s
  | .abx => Sys2Proof.Machine.execAbx s
  | .rti => Sys2Proof.Machine.execRti s
  | .pshx => Sys2Proof.Machine.execPshx s
  | .mul => Sys2Proof.Machine.execMul s
  | .wai => Sys2Proof.Machine.execWai s
  | .swi => Sys2Proof.Machine.execSwi s
  | .nega => Sys2Proof.Machine.execNega s
  | .coma => Sys2Proof.Machine.execComa s
  | .lsra => Sys2Proof.Machine.execLsra s
  | .rora => Sys2Proof.Machine.execRora s
  | .asra => Sys2Proof.Machine.execAsra s
  | .asla => Sys2Proof.Machine.execAsla s
  | .rola => Sys2Proof.Machine.execRola s
  | .deca => Sys2Proof.Machine.execDeca s
  | .inca => Sys2Proof.Machine.execInca s
  | .tsta => Sys2Proof.Machine.execTsta s
  | .clra => Sys2Proof.Machine.execClra s
  | .negb => Sys2Proof.Machine.execNegb s
  | .comb => Sys2Proof.Machine.execComb s
  | .lsrb => Sys2Proof.Machine.execLsrb s
  | .rorb => Sys2Proof.Machine.execRorb s
  | .asrb => Sys2Proof.Machine.execAsrb s
  | .aslb => Sys2Proof.Machine.execAslb s
  | .rolb => Sys2Proof.Machine.execRolb s
  | .decb => Sys2Proof.Machine.execDecb s
  | .incb => Sys2Proof.Machine.execIncb s
  | .tstb => Sys2Proof.Machine.execTstb s
  | .clrb => Sys2Proof.Machine.execClrb s
  | .negIdx ff => Sys2Proof.Machine.execNegIdx ff s
  | .aimIdx ii ff => Sys2Proof.Machine.execAimIdx ii ff s
  | .oimIdx ii ff => Sys2Proof.Machine.execOimIdx ii ff s
  | .comIdx ff => Sys2Proof.Machine.execComIdx ff s
  | .lsrIdx ff => Sys2Proof.Machine.execLsrIdx ff s
  | .eimIdx ii ff => Sys2Proof.Machine.execEimIdx ii ff s
  | .rorIdx ff => Sys2Proof.Machine.execRorIdx ff s
  | .asrIdx ff => Sys2Proof.Machine.execAsrIdx ff s
  | .aslIdx ff => Sys2Proof.Machine.execAslIdx ff s
  | .rolIdx ff => Sys2Proof.Machine.execRolIdx ff s
  | .decIdx ff => Sys2Proof.Machine.execDecIdx ff s
  | .timIdx ii ff => Sys2Proof.Machine.execTimIdx ii ff s
  | .incIdx ff => Sys2Proof.Machine.execIncIdx ff s
  | .tstIdx ff => Sys2Proof.Machine.execTstIdx ff s
  | .jmpIdx ff => Sys2Proof.Machine.execJmpIdx ff s
  | .clrIdx ff => Sys2Proof.Machine.execClrIdx ff s
  | .negExt hhll => Sys2Proof.Machine.execNegExt hhll s
  | .aimDir ii dd => Sys2Proof.Machine.execAimDir ii dd s
  | .oimDir ii dd => Sys2Proof.Machine.execOimDir ii dd s
  | .comExt hhll => Sys2Proof.Machine.execComExt hhll s
  | .lsrExt hhll => Sys2Proof.Machine.execLsrExt hhll s
  | .eimDir ii dd => Sys2Proof.Machine.execEimDir ii dd s
  | .rorExt hhll => Sys2Proof.Machine.execRorExt hhll s
  | .asrExt hhll => Sys2Proof.Machine.execAsrExt hhll s
  | .aslExt hhll => Sys2Proof.Machine.execAslExt hhll s
  | .rolExt hhll => Sys2Proof.Machine.execRolExt hhll s
  | .decExt hhll => Sys2Proof.Machine.execDecExt hhll s
  | .timDir ii dd => Sys2Proof.Machine.execTimDir ii dd s
  | .incExt hhll => Sys2Proof.Machine.execIncExt hhll s
  | .tstExt hhll => Sys2Proof.Machine.execTstExt hhll s
  | .jmpExt hhll => Sys2Proof.Machine.execJmpExt hhll s
  | .clrExt hhll => Sys2Proof.Machine.execClrExt hhll s
  | .subaImm ii => Sys2Proof.Machine.execSubaImm ii s
  | .cmpaImm ii => Sys2Proof.Machine.execCmpaImm ii s
  | .sbcaImm ii => Sys2Proof.Machine.execSbcaImm ii s
  | .subdImm jjkk => Sys2Proof.Machine.execSubdImm jjkk s
  | .andaImm ii => Sys2Proof.Machine.execAndaImm ii s
  | .bitaImm ii => Sys2Proof.Machine.execBitaImm ii s
  | .ldaaImm ii => Sys2Proof.Machine.execLdaaImm ii s
  | .eoraImm ii => Sys2Proof.Machine.execEoraImm ii s
  | .adcaImm ii => Sys2Proof.Machine.execAdcaImm ii s
  | .oraaImm ii => Sys2Proof.Machine.execOraaImm ii s
  | .addaImm ii => Sys2Proof.Machine.execAddaImm ii s
  | .cpxImm jjkk => Sys2Proof.Machine.execCpxImm jjkk s
  | .bsr rr => Sys2Proof.Machine.execBsr rr s
  | .ldsImm jjkk => Sys2Proof.Machine.execLdsImm jjkk s
  | .subaDir dd => Sys2Proof.Machine.execSubaDir dd s
  | .cmpaDir dd => Sys2Proof.Machine.execCmpaDir dd s
  | .sbcaDir dd => Sys2Proof.Machine.execSbcaDir dd s
  | .subdDir dd => Sys2Proof.Machine.execSubdDir dd s
  | .andaDir dd => Sys2Proof.Machine.execAndaDir dd s
  | .bitaDir dd => Sys2Proof.Machine.execBitaDir dd s
  | .ldaaDir dd => Sys2Proof.Machine.execLdaaDir dd s
  | .staaDir dd => Sys2Proof.Machine.execStaaDir dd s
  | .eoraDir dd => Sys2Proof.Machine.execEoraDir dd s
  | .adcaDir dd => Sys2Proof.Machine.execAdcaDir dd s
  | .oraaDir dd => Sys2Proof.Machine.execOraaDir dd s
  | .addaDir dd => Sys2Proof.Machine.execAddaDir dd s
  | .cpxDir dd => Sys2Proof.Machine.execCpxDir dd s
  | .jsrDir dd => Sys2Proof.Machine.execJsrDir dd s
  | .ldsDir dd => Sys2Proof.Machine.execLdsDir dd s
  | .stsDir dd => Sys2Proof.Machine.execStsDir dd s
  | .subaIdx ff => Sys2Proof.Machine.execSubaIdx ff s
  | .cmpaIdx ff => Sys2Proof.Machine.execCmpaIdx ff s
  | .sbcaIdx ff => Sys2Proof.Machine.execSbcaIdx ff s
  | .subdIdx ff => Sys2Proof.Machine.execSubdIdx ff s
  | .andaIdx ff => Sys2Proof.Machine.execAndaIdx ff s
  | .bitaIdx ff => Sys2Proof.Machine.execBitaIdx ff s
  | .ldaaIdx ff => Sys2Proof.Machine.execLdaaIdx ff s
  | .staaIdx ff => Sys2Proof.Machine.execStaaIdx ff s
  | .eoraIdx ff => Sys2Proof.Machine.execEoraIdx ff s
  | .adcaIdx ff => Sys2Proof.Machine.execAdcaIdx ff s
  | .oraaIdx ff => Sys2Proof.Machine.execOraaIdx ff s
  | .addaIdx ff => Sys2Proof.Machine.execAddaIdx ff s
  | .cpxIdx ff => Sys2Proof.Machine.execCpxIdx ff s
  | .jsrIdx ff => Sys2Proof.Machine.execJsrIdx ff s
  | .ldsIdx ff => Sys2Proof.Machine.execLdsIdx ff s
  | .stsIdx ff => Sys2Proof.Machine.execStsIdx ff s
  | .subaExt hhll => Sys2Proof.Machine.execSubaExt hhll s
  | .cmpaExt hhll => Sys2Proof.Machine.execCmpaExt hhll s
  | .sbcaExt hhll => Sys2Proof.Machine.execSbcaExt hhll s
  | .subdExt hhll => Sys2Proof.Machine.execSubdExt hhll s
  | .andaExt hhll => Sys2Proof.Machine.execAndaExt hhll s
  | .bitaExt hhll => Sys2Proof.Machine.execBitaExt hhll s
  | .ldaaExt hhll => Sys2Proof.Machine.execLdaaExt hhll s
  | .staaExt hhll => Sys2Proof.Machine.execStaaExt hhll s
  | .eoraExt hhll => Sys2Proof.Machine.execEoraExt hhll s
  | .adcaExt hhll => Sys2Proof.Machine.execAdcaExt hhll s
  | .oraaExt hhll => Sys2Proof.Machine.execOraaExt hhll s
  | .addaExt hhll => Sys2Proof.Machine.execAddaExt hhll s
  | .cpxExt hhll => Sys2Proof.Machine.execCpxExt hhll s
  | .jsrExt hhll => Sys2Proof.Machine.execJsrExt hhll s
  | .ldsExt hhll => Sys2Proof.Machine.execLdsExt hhll s
  | .stsExt hhll => Sys2Proof.Machine.execStsExt hhll s
  | .subbImm ii => Sys2Proof.Machine.execSubbImm ii s
  | .cmpbImm ii => Sys2Proof.Machine.execCmpbImm ii s
  | .sbcbImm ii => Sys2Proof.Machine.execSbcbImm ii s
  | .adddImm jjkk => Sys2Proof.Machine.execAdddImm jjkk s
  | .andbImm ii => Sys2Proof.Machine.execAndbImm ii s
  | .bitbImm ii => Sys2Proof.Machine.execBitbImm ii s
  | .ldabImm ii => Sys2Proof.Machine.execLdabImm ii s
  | .eorbImm ii => Sys2Proof.Machine.execEorbImm ii s
  | .adcbImm ii => Sys2Proof.Machine.execAdcbImm ii s
  | .orabImm ii => Sys2Proof.Machine.execOrabImm ii s
  | .addbImm ii => Sys2Proof.Machine.execAddbImm ii s
  | .lddImm jjkk => Sys2Proof.Machine.execLddImm jjkk s
  | .ldxImm jjkk => Sys2Proof.Machine.execLdxImm jjkk s
  | .subbDir dd => Sys2Proof.Machine.execSubbDir dd s
  | .cmpbDir dd => Sys2Proof.Machine.execCmpbDir dd s
  | .sbcbDir dd => Sys2Proof.Machine.execSbcbDir dd s
  | .adddDir dd => Sys2Proof.Machine.execAdddDir dd s
  | .andbDir dd => Sys2Proof.Machine.execAndbDir dd s
  | .bitbDir dd => Sys2Proof.Machine.execBitbDir dd s
  | .ldabDir dd => Sys2Proof.Machine.execLdabDir dd s
  | .stabDir dd => Sys2Proof.Machine.execStabDir dd s
  | .eorbDir dd => Sys2Proof.Machine.execEorbDir dd s
  | .adcbDir dd => Sys2Proof.Machine.execAdcbDir dd s
  | .orabDir dd => Sys2Proof.Machine.execOrabDir dd s
  | .addbDir dd => Sys2Proof.Machine.execAddbDir dd s
  | .lddDir dd => Sys2Proof.Machine.execLddDir dd s
  | .stdDir dd => Sys2Proof.Machine.execStdDir dd s
  | .ldxDir dd => Sys2Proof.Machine.execLdxDir dd s
  | .stxDir dd => Sys2Proof.Machine.execStxDir dd s
  | .subbIdx ff => Sys2Proof.Machine.execSubbIdx ff s
  | .cmpbIdx ff => Sys2Proof.Machine.execCmpbIdx ff s
  | .sbcbIdx ff => Sys2Proof.Machine.execSbcbIdx ff s
  | .adddIdx ff => Sys2Proof.Machine.execAdddIdx ff s
  | .andbIdx ff => Sys2Proof.Machine.execAndbIdx ff s
  | .bitbIdx ff => Sys2Proof.Machine.execBitbIdx ff s
  | .ldabIdx ff => Sys2Proof.Machine.execLdabIdx ff s
  | .stabIdx ff => Sys2Proof.Machine.execStabIdx ff s
  | .eorbIdx ff => Sys2Proof.Machine.execEorbIdx ff s
  | .adcbIdx ff => Sys2Proof.Machine.execAdcbIdx ff s
  | .orabIdx ff => Sys2Proof.Machine.execOrabIdx ff s
  | .addbIdx ff => Sys2Proof.Machine.execAddbIdx ff s
  | .lddIdx ff => Sys2Proof.Machine.execLddIdx ff s
  | .stdIdx ff => Sys2Proof.Machine.execStdIdx ff s
  | .ldxIdx ff => Sys2Proof.Machine.execLdxIdx ff s
  | .stxIdx ff => Sys2Proof.Machine.execStxIdx ff s
  | .subbExt hhll => Sys2Proof.Machine.execSubbExt hhll s
  | .cmpbExt hhll => Sys2Proof.Machine.execCmpbExt hhll s
  | .sbcbExt hhll => Sys2Proof.Machine.execSbcbExt hhll s
  | .adddExt hhll => Sys2Proof.Machine.execAdddExt hhll s
  | .andbExt hhll => Sys2Proof.Machine.execAndbExt hhll s
  | .bitbExt hhll => Sys2Proof.Machine.execBitbExt hhll s
  | .ldabExt hhll => Sys2Proof.Machine.execLdabExt hhll s
  | .stabExt hhll => Sys2Proof.Machine.execStabExt hhll s
  | .eorbExt hhll => Sys2Proof.Machine.execEorbExt hhll s
  | .adcbExt hhll => Sys2Proof.Machine.execAdcbExt hhll s
  | .orabExt hhll => Sys2Proof.Machine.execOrabExt hhll s
  | .addbExt hhll => Sys2Proof.Machine.execAddbExt hhll s
  | .lddExt hhll => Sys2Proof.Machine.execLddExt hhll s
  | .stdExt hhll => Sys2Proof.Machine.execStdExt hhll s
  | .ldxExt hhll => Sys2Proof.Machine.execLdxExt hhll s
  | .stxExt hhll => Sys2Proof.Machine.execStxExt hhll s

end Sys2Proof.Machine
end

