-- ==== Sys2Proof/Machine/Boundary.lean ====
section
/-! DEFINITION. One step of the core, with the cycles it consumed: the boundary check, the fetch, the instruction, the
tick (60_exceptions.md R313); and placing an instruction where the next fetch finds it. -/

namespace Sys2Proof.Machine

open Sys2Proof

/-- What a fetch gives. -/
structure Fetched where
  /-- The opcode byte. -/
  op : Byte
  /-- The instruction. -/
  instr : Instr
  /-- The state after the reads. -/
  after : State
  deriving DecidableEq, Repr

/-- Read the bytes of the instruction at pc, one `MemRead` each at ascending addresses modulo 2^16, as many as the table
asks for at the opcode byte (30_encoding.md R101, R102). All of an instruction's fetches come before its other accesses
(20_memory.md R74), so they stand here; the meaning then moves pc (log 16). -/
def fetch (t : IsaTable) (s : State) : Fetched :=
  let op := memRead s.pc s
  let count := (t op.1).operandCount
  let b1 := if 1 ≤ count then memRead (s.pc + 1) op.2 else (0, op.2)
  let b2 := if 2 ≤ count then memRead (s.pc + 2) b1.2 else (0, b1.2)
  { op := op.1, instr := (t op.1).instr op.1 b1.1 b2.1, after := b2.2 }

/-- A state and the cycles consumed to reach it. -/
abbrev Counted := Host.Outcome (State × Nat) Fault Refusal

/-- Consume `n` cycles: tick the timer by them and count them. -/
def spend (n : Nat) (s : State) : State × Nat :=
  (s.tick n, n)

/-- With `CLI_DELAY`, remember that the instruction was a CLI or TAP that left I = 0; without it, nothing (log 23). -/
def State.noteUnmask (s : State) (i : Instr) : State :=
  if cliDelay then { s with cliShadow := (i == .cli || i == .tap) && !s.ccr.i } else s

/-- Fetch and execute one instruction, then tick by the cost of its opcode (60_exceptions.md R313). -/
def executeNext (p : Params) (s : State) : Counted :=
  let f := fetch p.isaTable s
  match exec f.instr f.after with
  | .next t => .next (spend (p.cost f.op) (t.noteUnmask f.instr))
  | .fault r => .fault r
  | .refused r => .refused r

/-- A pending source must wait: I = 1 (60_exceptions.md R307), or with `CLI_DELAY` the instruction before was a CLI or TAP. -/
def State.masked (s : State) : Bool :=
  s.ccr.i || (cliDelay && s.cliShadow)

/-- A boundary in the RUN state: dispatch the pending source if it is not masked, else execute the next instruction
(60_exceptions.md R308, R311, R313). -/
def boundary (p : Params) (vec : Option Word) (s : State) : Counted :=
  match vec with
  | none => executeNext p s
  | some v => if s.masked then executeNext p s else .next (spend p.dispatchCycles (takeInterrupt v s))

/-- `Step()` with the cycles it returns (60_exceptions.md R313), under any parameters. The request lines are evaluated
once, at its start. -/
def stepCounted (p : Params) (s : State) : Counted :=
  if s.crashed then .next (s, 0)
  else
    match s.waitState with
    | .run => boundary p s.pendingVector s
    | .wai =>
      match s.pendingVector with
      | none => .next (spend p.idleCycles s)
      | some v =>
        if s.ccr.i then .next (spend p.idleCycles s)
        else .next (spend p.waiExitCycles (enterHandler v { s with waitState := .run }))
    | .slp =>
      match s.pendingVector with
      | none => .next (spend p.idleCycles s)
      | some v => boundary p (some v) { s with waitState := .run }

/-- The state of an outcome with cycles. -/
def Counted.toResult (r : Counted) : Result :=
  match r with
  | .next t => .next t.1
  | .fault e => .fault e
  | .refused e => .refused e

/-- Where an instruction is placed for the next fetch: at pc if its three bytes can be stored there, else at the first
address of the image (log 17). -/
def placeAddress (pc : Word) : Word :=
  if stores pc.toNat && stores (pc + 1).toNat && stores (pc + 2).toNat then pc else BitVec.ofNat 16 romBase

/-- The state whose very next step fetches the instruction with these bytes: they stand at pc, the core is neither
crashed nor waiting, and a pending request is masked (log 17). -/
def placeInstr (bytes : List Byte) (s : State) : State :=
  let addr := placeAddress s.pc
  { s with
    pc := addr
    mem := Memory.load bytes addr.toNat s.mem
    crashed := false
    waitState := .run
    ccr := { s.ccr with i := s.ccr.i || s.pendingVector.isSome } }

end Sys2Proof.Machine
end

