-- ==== Sys2Proof/Machine/Step.lean ====
section
/-! DEFINITION. The step of the core, and the state in which a given instruction is the next one fetched. -/

namespace Sys2Proof.Machine

open Sys2Proof

/-- `Step()` under any parameters (60_exceptions.md R313, 92_eei_decisions.md section 2): one boundary check and at most one
idle step, wake-up, dispatch, instruction or crash. -/
def stepWith (p : Params) (s : State) : Host.Outcome State Fault Refusal :=
  (stepCounted p s).toResult

/-- `Step()` under the default parameters (60_exceptions.md R313, 00_scope.md R6). -/
def step (s : State) : Host.Outcome State Fault Refusal :=
  stepWith Params.default s

/-- The state with the instruction whose bits are `w` placed where the next step fetches it (log 17). -/
def State.withFetchWord (s : State) (nbits w : Nat) : State :=
  placeInstr (tableWordBytes nbits w) s

end Sys2Proof.Machine
end

