-- ==== Sys2Proof/Machine/Forms.lean ====
section
/-! DEFINITION. The instructions of a mnemonic with several addressing modes, by operand form: a name for each family of
constructors, so that one statement covers every form the spec gives an instruction. -/

namespace Sys2Proof.Machine

open Sys2Proof

/-- NEG in each of its forms (R174): `negIdx`, `negExt`. -/
def formNeg : EaIX → Instr
  | .idx ff => .negIdx ff
  | .ext hhll => .negExt hhll

/-- AIM in each of its forms (R230): `aimIdx`, `aimDir`. -/
def formAim : Byte → EaDX → Instr
  | ii, .dir dd => .aimDir ii dd
  | ii, .idx ff => .aimIdx ii ff

/-- OIM in each of its forms (R231): `oimIdx`, `oimDir`. -/
def formOim : Byte → EaDX → Instr
  | ii, .dir dd => .oimDir ii dd
  | ii, .idx ff => .oimIdx ii ff

/-- COM in each of its forms (R212): `comIdx`, `comExt`. -/
def formCom : EaIX → Instr
  | .idx ff => .comIdx ff
  | .ext hhll => .comExt hhll

/-- LSR in each of its forms (R221): `lsrIdx`, `lsrExt`. -/
def formLsr : EaIX → Instr
  | .idx ff => .lsrIdx ff
  | .ext hhll => .lsrExt hhll

/-- EIM in each of its forms (R232): `eimIdx`, `eimDir`. -/
def formEim : Byte → EaDX → Instr
  | ii, .dir dd => .eimDir ii dd
  | ii, .idx ff => .eimIdx ii ff

/-- ROR in each of its forms (R227): `rorIdx`, `rorExt`. -/
def formRor : EaIX → Instr
  | .idx ff => .rorIdx ff
  | .ext hhll => .rorExt hhll

/-- ASR in each of its forms (R218): `asrIdx`, `asrExt`. -/
def formAsr : EaIX → Instr
  | .idx ff => .asrIdx ff
  | .ext hhll => .asrExt hhll

/-- ASL in each of its forms (R215): `aslIdx`, `aslExt`. -/
def formAsl : EaIX → Instr
  | .idx ff => .aslIdx ff
  | .ext hhll => .aslExt hhll

/-- ROL in each of its forms (R224): `rolIdx`, `rolExt`. -/
def formRol : EaIX → Instr
  | .idx ff => .rolIdx ff
  | .ext hhll => .rolExt hhll

/-- DEC in each of its forms (R180): `decIdx`, `decExt`. -/
def formDec : EaIX → Instr
  | .idx ff => .decIdx ff
  | .ext hhll => .decExt hhll

/-- TIM in each of its forms (R233): `timIdx`, `timDir`. -/
def formTim : Byte → EaDX → Instr
  | ii, .dir dd => .timDir ii dd
  | ii, .idx ff => .timIdx ii ff

/-- INC in each of its forms (R177): `incIdx`, `incExt`. -/
def formInc : EaIX → Instr
  | .idx ff => .incIdx ff
  | .ext hhll => .incExt hhll

/-- TST in each of its forms (R191): `tstIdx`, `tstExt`. -/
def formTst : EaIX → Instr
  | .idx ff => .tstIdx ff
  | .ext hhll => .tstExt hhll

/-- JMP in each of its forms (R259): `jmpIdx`, `jmpExt`. -/
def formJmp : EaIX → Instr
  | .idx ff => .jmpIdx ff
  | .ext hhll => .jmpExt hhll

/-- CLR in each of its forms (R143): `clrIdx`, `clrExt`. -/
def formClr : EaIX → Instr
  | .idx ff => .clrIdx ff
  | .ext hhll => .clrExt hhll

/-- SUBA in each of its forms (R164): `subaImm`, `subaDir`, `subaIdx`, `subaExt`. -/
def formSuba : Src8 → Instr
  | .imm ii => .subaImm ii
  | .mem (.dir dd) => .subaDir dd
  | .mem (.idx ff) => .subaIdx ff
  | .mem (.ext hhll) => .subaExt hhll

/-- CMPA in each of its forms (R185): `cmpaImm`, `cmpaDir`, `cmpaIdx`, `cmpaExt`. -/
def formCmpa : Src8 → Instr
  | .imm ii => .cmpaImm ii
  | .mem (.dir dd) => .cmpaDir dd
  | .mem (.idx ff) => .cmpaIdx ff
  | .mem (.ext hhll) => .cmpaExt hhll

/-- SBCA in each of its forms (R166): `sbcaImm`, `sbcaDir`, `sbcaIdx`, `sbcaExt`. -/
def formSbca : Src8 → Instr
  | .imm ii => .sbcaImm ii
  | .mem (.dir dd) => .sbcaDir dd
  | .mem (.idx ff) => .sbcaIdx ff
  | .mem (.ext hhll) => .sbcaExt hhll

/-- SUBD in each of its forms (R169): `subdImm`, `subdDir`, `subdIdx`, `subdExt`. -/
def formSubd : Src16 → Instr
  | .imm jjkk => .subdImm jjkk
  | .mem (.dir dd) => .subdDir dd
  | .mem (.idx ff) => .subdIdx ff
  | .mem (.ext hhll) => .subdExt hhll

/-- ANDA in each of its forms (R202): `andaImm`, `andaDir`, `andaIdx`, `andaExt`. -/
def formAnda : Src8 → Instr
  | .imm ii => .andaImm ii
  | .mem (.dir dd) => .andaDir dd
  | .mem (.idx ff) => .andaIdx ff
  | .mem (.ext hhll) => .andaExt hhll

/-- BITA in each of its forms (R208): `bitaImm`, `bitaDir`, `bitaIdx`, `bitaExt`. -/
def formBita : Src8 → Instr
  | .imm ii => .bitaImm ii
  | .mem (.dir dd) => .bitaDir dd
  | .mem (.idx ff) => .bitaIdx ff
  | .mem (.ext hhll) => .bitaExt hhll

/-- LDAA in each of its forms (R120): `ldaaImm`, `ldaaDir`, `ldaaIdx`, `ldaaExt`. -/
def formLdaa : Src8 → Instr
  | .imm ii => .ldaaImm ii
  | .mem (.dir dd) => .ldaaDir dd
  | .mem (.idx ff) => .ldaaIdx ff
  | .mem (.ext hhll) => .ldaaExt hhll

/-- EORA in each of its forms (R206): `eoraImm`, `eoraDir`, `eoraIdx`, `eoraExt`. -/
def formEora : Src8 → Instr
  | .imm ii => .eoraImm ii
  | .mem (.dir dd) => .eoraDir dd
  | .mem (.idx ff) => .eoraIdx ff
  | .mem (.ext hhll) => .eoraExt hhll

/-- ADCA in each of its forms (R159): `adcaImm`, `adcaDir`, `adcaIdx`, `adcaExt`. -/
def formAdca : Src8 → Instr
  | .imm ii => .adcaImm ii
  | .mem (.dir dd) => .adcaDir dd
  | .mem (.idx ff) => .adcaIdx ff
  | .mem (.ext hhll) => .adcaExt hhll

/-- ORAA in each of its forms (R204): `oraaImm`, `oraaDir`, `oraaIdx`, `oraaExt`. -/
def formOraa : Src8 → Instr
  | .imm ii => .oraaImm ii
  | .mem (.dir dd) => .oraaDir dd
  | .mem (.idx ff) => .oraaIdx ff
  | .mem (.ext hhll) => .oraaExt hhll

/-- ADDA in each of its forms (R157): `addaImm`, `addaDir`, `addaIdx`, `addaExt`. -/
def formAdda : Src8 → Instr
  | .imm ii => .addaImm ii
  | .mem (.dir dd) => .addaDir dd
  | .mem (.idx ff) => .addaIdx ff
  | .mem (.ext hhll) => .addaExt hhll

/-- CPX in each of its forms (R188): `cpxImm`, `cpxDir`, `cpxIdx`, `cpxExt`. -/
def formCpx : Src16 → Instr
  | .imm jjkk => .cpxImm jjkk
  | .mem (.dir dd) => .cpxDir dd
  | .mem (.idx ff) => .cpxIdx ff
  | .mem (.ext hhll) => .cpxExt hhll

/-- LDS in each of its forms (R124): `ldsImm`, `ldsDir`, `ldsIdx`, `ldsExt`. -/
def formLds : Src16 → Instr
  | .imm jjkk => .ldsImm jjkk
  | .mem (.dir dd) => .ldsDir dd
  | .mem (.idx ff) => .ldsIdx ff
  | .mem (.ext hhll) => .ldsExt hhll

/-- STAA in each of its forms (R125): `staaDir`, `staaIdx`, `staaExt`. -/
def formStaa : Ea → Instr
  | .dir dd => .staaDir dd
  | .idx ff => .staaIdx ff
  | .ext hhll => .staaExt hhll

/-- JSR in each of its forms (R260): `jsrDir`, `jsrIdx`, `jsrExt`. -/
def formJsr : Ea → Instr
  | .dir dd => .jsrDir dd
  | .idx ff => .jsrIdx ff
  | .ext hhll => .jsrExt hhll

/-- STS in each of its forms (R129): `stsDir`, `stsIdx`, `stsExt`. -/
def formSts : Ea → Instr
  | .dir dd => .stsDir dd
  | .idx ff => .stsIdx ff
  | .ext hhll => .stsExt hhll

/-- SUBB in each of its forms (R165): `subbImm`, `subbDir`, `subbIdx`, `subbExt`. -/
def formSubb : Src8 → Instr
  | .imm ii => .subbImm ii
  | .mem (.dir dd) => .subbDir dd
  | .mem (.idx ff) => .subbIdx ff
  | .mem (.ext hhll) => .subbExt hhll

/-- CMPB in each of its forms (R186): `cmpbImm`, `cmpbDir`, `cmpbIdx`, `cmpbExt`. -/
def formCmpb : Src8 → Instr
  | .imm ii => .cmpbImm ii
  | .mem (.dir dd) => .cmpbDir dd
  | .mem (.idx ff) => .cmpbIdx ff
  | .mem (.ext hhll) => .cmpbExt hhll

/-- SBCB in each of its forms (R167): `sbcbImm`, `sbcbDir`, `sbcbIdx`, `sbcbExt`. -/
def formSbcb : Src8 → Instr
  | .imm ii => .sbcbImm ii
  | .mem (.dir dd) => .sbcbDir dd
  | .mem (.idx ff) => .sbcbIdx ff
  | .mem (.ext hhll) => .sbcbExt hhll

/-- ADDD in each of its forms (R162): `adddImm`, `adddDir`, `adddIdx`, `adddExt`. -/
def formAddd : Src16 → Instr
  | .imm jjkk => .adddImm jjkk
  | .mem (.dir dd) => .adddDir dd
  | .mem (.idx ff) => .adddIdx ff
  | .mem (.ext hhll) => .adddExt hhll

/-- ANDB in each of its forms (R203): `andbImm`, `andbDir`, `andbIdx`, `andbExt`. -/
def formAndb : Src8 → Instr
  | .imm ii => .andbImm ii
  | .mem (.dir dd) => .andbDir dd
  | .mem (.idx ff) => .andbIdx ff
  | .mem (.ext hhll) => .andbExt hhll

/-- BITB in each of its forms (R209): `bitbImm`, `bitbDir`, `bitbIdx`, `bitbExt`. -/
def formBitb : Src8 → Instr
  | .imm ii => .bitbImm ii
  | .mem (.dir dd) => .bitbDir dd
  | .mem (.idx ff) => .bitbIdx ff
  | .mem (.ext hhll) => .bitbExt hhll

/-- LDAB in each of its forms (R121): `ldabImm`, `ldabDir`, `ldabIdx`, `ldabExt`. -/
def formLdab : Src8 → Instr
  | .imm ii => .ldabImm ii
  | .mem (.dir dd) => .ldabDir dd
  | .mem (.idx ff) => .ldabIdx ff
  | .mem (.ext hhll) => .ldabExt hhll

/-- EORB in each of its forms (R207): `eorbImm`, `eorbDir`, `eorbIdx`, `eorbExt`. -/
def formEorb : Src8 → Instr
  | .imm ii => .eorbImm ii
  | .mem (.dir dd) => .eorbDir dd
  | .mem (.idx ff) => .eorbIdx ff
  | .mem (.ext hhll) => .eorbExt hhll

/-- ADCB in each of its forms (R160): `adcbImm`, `adcbDir`, `adcbIdx`, `adcbExt`. -/
def formAdcb : Src8 → Instr
  | .imm ii => .adcbImm ii
  | .mem (.dir dd) => .adcbDir dd
  | .mem (.idx ff) => .adcbIdx ff
  | .mem (.ext hhll) => .adcbExt hhll

/-- ORAB in each of its forms (R205): `orabImm`, `orabDir`, `orabIdx`, `orabExt`. -/
def formOrab : Src8 → Instr
  | .imm ii => .orabImm ii
  | .mem (.dir dd) => .orabDir dd
  | .mem (.idx ff) => .orabIdx ff
  | .mem (.ext hhll) => .orabExt hhll

/-- ADDB in each of its forms (R158): `addbImm`, `addbDir`, `addbIdx`, `addbExt`. -/
def formAddb : Src8 → Instr
  | .imm ii => .addbImm ii
  | .mem (.dir dd) => .addbDir dd
  | .mem (.idx ff) => .addbIdx ff
  | .mem (.ext hhll) => .addbExt hhll

/-- LDD in each of its forms (R122): `lddImm`, `lddDir`, `lddIdx`, `lddExt`. -/
def formLdd : Src16 → Instr
  | .imm jjkk => .lddImm jjkk
  | .mem (.dir dd) => .lddDir dd
  | .mem (.idx ff) => .lddIdx ff
  | .mem (.ext hhll) => .lddExt hhll

/-- LDX in each of its forms (R123): `ldxImm`, `ldxDir`, `ldxIdx`, `ldxExt`. -/
def formLdx : Src16 → Instr
  | .imm jjkk => .ldxImm jjkk
  | .mem (.dir dd) => .ldxDir dd
  | .mem (.idx ff) => .ldxIdx ff
  | .mem (.ext hhll) => .ldxExt hhll

/-- STAB in each of its forms (R126): `stabDir`, `stabIdx`, `stabExt`. -/
def formStab : Ea → Instr
  | .dir dd => .stabDir dd
  | .idx ff => .stabIdx ff
  | .ext hhll => .stabExt hhll

/-- STD in each of its forms (R127): `stdDir`, `stdIdx`, `stdExt`. -/
def formStd : Ea → Instr
  | .dir dd => .stdDir dd
  | .idx ff => .stdIdx ff
  | .ext hhll => .stdExt hhll

/-- STX in each of its forms (R128): `stxDir`, `stxIdx`, `stxExt`. -/
def formStx : Ea → Instr
  | .dir dd => .stxDir dd
  | .idx ff => .stxIdx ff
  | .ext hhll => .stxExt hhll

end Sys2Proof.Machine
end

