-- ==== Sys2Proof/Machine/Ports.lean ====
section
/-! DEFINITION. The ports by which the host drives the block, each between two steps (60_exceptions.md section 6), the two
resets (70_reset_and_hazards.md) and the construction of the block with a firmware image. -/

namespace Sys2Proof.Machine

open Sys2Proof

/-! ### The byte ports -/

/-- What `feed_inbound` returns. -/
inductive FeedResult where
  /-- The byte is in the receive shadow. -/
  | accepted
  /-- A byte was still unread. -/
  | overrun
  deriving DecidableEq, Repr

/-- `feed_inbound(b)` under an overrun policy (60_exceptions.md R331, R343). -/
def feedInboundWith (policy : Config.OverrunPolicy) (v : Byte) (s : State) : FeedResult × State :=
  if s.serial.rdrf then
    match policy with
    | .preserve => (.overrun, { s with serial := { s.serial with orfe := true } })
    | .replace => (.overrun, { s with serial := { s.serial with orfe := true, rdr := v } })
  else (.accepted, { s with serial := { s.serial with rdr := v, rdrf := true } })

/-- `feed_inbound(b)` under the default policy, preserve (60_exceptions.md R331, R343). -/
def feedInbound (v : Byte) (s : State) : FeedResult × State :=
  feedInboundWith Params.default.overrunPolicy v s

/-- `is_receive_busy()` (60_exceptions.md R332). -/
def isReceiveBusy (s : State) : Bool :=
  s.serial.rdrf

/-- `report_transmit_capacity(space)` (60_exceptions.md R337). -/
def reportTransmitCapacity (space : Bool) (s : State) : State :=
  { s with serial := { s.serial with tdre := space } }

/-- `drain_outbound()`: the oldest byte of the queue, if any (60_exceptions.md R338). -/
def drainOutbound (s : State) : Option Byte × State :=
  match s.serial.txq with
  | [] => (none, s)
  | v :: rest => (some v, { s with serial := { s.serial with txq := rest } })

/-! ### Pause, crash and the batch -/

/-- `request_pause()` (60_exceptions.md R348). -/
def requestPause (s : State) : State :=
  { s with pauseReq := true }

/-- `request_resume()` (60_exceptions.md R348). -/
def requestResume (s : State) : State :=
  { s with pauseReq := false, paused := false }

/-- `is_paused()` (60_exceptions.md R348). -/
def isPaused (s : State) : Bool :=
  s.paused

/-- `is_crashed()` (60_exceptions.md R349). -/
def isCrashed (s : State) : Bool :=
  s.crashed

/-- The loop of `run`: steps until the budget is consumed or the core is crashed. `fuel` bounds the number of steps; the
budget itself is enough under valid costs, since a step of a core that goes on then consumes at least one cycle
(60_exceptions.md R347; log 18). -/
def runLoop (p : Params) : Nat → Int → Nat → State → Host.Outcome (Nat × State) Fault Refusal
  | 0, _, consumed, s => .next (consumed, s)
  | fuel + 1, budget, consumed, s =>
    if (consumed : Int) < budget && !s.crashed then
      match stepCounted p s with
      | .next t => runLoop p fuel budget (consumed + t.2) t.1
      | .fault r => .fault r
      | .refused r => .refused r
    else .next (consumed, s)

/-- The entry of `run`: a pending pause request is honoured (60_exceptions.md R347, R348). -/
def latchPause (s : State) : State :=
  { s with paused := s.paused || s.pauseReq }

/-- The end of `run`: the cycles it consumed are added to the cumulative count (60_exceptions.md R347). -/
def addCycles (n : Nat) (s : State) : State :=
  { s with cyclesTotal := s.cyclesTotal + n }

/-- `run(cycle_budget)`: the cycles consumed and the state after (60_exceptions.md R347, R348). -/
def run (p : Params) (budget : Int) (s : State) : Host.Outcome (Nat × State) Fault Refusal :=
  if (latchPause s).paused then .next (0, latchPause s)
  else
    match runLoop p budget.toNat budget 0 (latchPause s) with
    | .next r => .next (r.1, addCycles r.1 r.2)
    | .fault e => .fault e
    | .refused e => .refused e

/-! ### Reset (70_reset_and_hazards.md R380 to R386) -/

/-- Arbitrary values for A, B, X, SP and the flags H, N, Z, V, C; I is 1 (70_reset_and_hazards.md R382; log 19). -/
def drawCpu (s : State) : State :=
  let a := s.drawByte
  let b := a.2.drawByte
  let x := b.2.drawWord
  let sp := x.2.drawWord
  let h := sp.2.drawBit
  let n := h.2.drawBit
  let z := n.2.drawBit
  let v := z.2.drawBit
  let c := v.2.drawBit
  { c.2 with
    a := a.1, b := b.1, x := x.1, sp := sp.1
    ccr := { h := h.1, i := true, n := n.1, z := z.1, v := v.1, c := c.1 } }

/-- `CpuReset()`: the part common to both resets (70_reset_and_hazards.md R382, R383). -/
def cpuReset (s : State) : State :=
  let t := drawCpu { s with crashed := false, waitState := .run, cliShadow := false }
  let target := memRead16 vecRes t
  target.2.jump target.1

/-- The timer after a cold reset (70_reset_and_hazards.md R381). -/
def coldTimer : Timer :=
  { counter := 0x0000, ocr := 0xFFFF, ocf := false, tcsrLo := 0, ocfArmed := false, tof := false, tofArmed := false }

/-- The serial peripheral after a cold reset (70_reset_and_hazards.md R381). -/
def coldSerial : Serial :=
  { rdrf := false, orfe := false, tdre := true, trcsrLo := 0, rdr := 0x00, tdr := 0x00, txq := [], sat := false }

/-- `reset(cold)` (70_reset_and_hazards.md R381). -/
def coldReset (s : State) : State :=
  let phase := s.drawPhase
  cpuReset { phase.2 with
    mem := s.mem.clearRam, timer := coldTimer, serial := coldSerial, phase := phase.1 }

/-- `reset(warm)` (70_reset_and_hazards.md R382). -/
def warmReset (s : State) : State :=
  cpuReset s

/-- The argument of `reset` (70_reset_and_hazards.md R380). -/
inductive ResetKind where
  /-- Full reinitialization. -/
  | cold
  /-- Reinitialization of the CPU alone. -/
  | warm
  deriving DecidableEq, Repr

/-- `reset(kind)` (60_exceptions.md R350). -/
def resetPort (kind : ResetKind) (s : State) : State :=
  match kind with
  | .cold => coldReset s
  | .warm => warmReset s

/-! ### Construction (60_exceptions.md R345, 70_reset_and_hazards.md R390) -/

/-- The cells of bytes at the addresses from `addr` on, in canonical form. -/
def imageCells : List Byte → Nat → Memory
  | [], _ => []
  | v :: rest, addr =>
    if v = unlistedByte then imageCells rest (addr + 1) else (addr, v) :: imageCells rest (addr + 1)

/-- The vectors a firmware uses when it runs a SWI or enables a source (60_exceptions.md R309). -/
inductive HandlerVector where
  /-- SWI is executed. -/
  | swi
  /-- The timer's request is enabled. -/
  | ocf
  /-- The serial request is enabled. -/
  | sci
  deriving DecidableEq, Repr

/-- Where the vector stands. -/
def HandlerVector.address : HandlerVector → Word
  | .swi => vecSwi
  | .ocf => vecOcf
  | .sci => vecSci

/-- The two bytes at a vector of an image, the high byte first. -/
def imageVector (image : List Byte) (vec : Word) : Word :=
  image.getD (vec.toNat - romBase) unlistedByte ++ image.getD (vec.toNat + 1 - romBase) unlistedByte

/-- An image that can be used (70_reset_and_hazards.md R388, R390): `ROM_SIZE` bytes long, its reset vector an address of the
image, and every vector of `uses` an address that holds a stored byte, in the image or in RAM (log 24). -/
def validImage (uses : List HandlerVector) (image : List Byte) : Bool :=
  decide (image.length = romSize) && decide (region (imageVector image vecRes) = .rom) &&
    uses.all fun u => stores (imageVector image u.address).toNat

/-- The block with a firmware image that uses the handlers `uses`, after the `reset(cold)` the host owes before the first
`run`; an image without valid vectors, or not `ROM_SIZE` bytes long, is refused (93_implementation_defined.md U24; log 1,
log 21, log 24). -/
def construct (uses : List HandlerVector) (image : List Byte) : Option State :=
  if validImage uses image then some (coldReset { State.reset with mem := imageCells image romBase }) else none

/-! ### The ports together -/

/-- A call of a port (60_exceptions.md R345). -/
inductive PortCall where
  /-- `reset(kind)`. -/
  | reset (kind : ResetKind)
  /-- `run(cycle_budget)`. -/
  | run (budget : Int)
  /-- `feed_inbound(byte)`. -/
  | feedInbound (v : Byte)
  /-- `drain_outbound()`. -/
  | drainOutbound
  /-- `is_receive_busy()`. -/
  | isReceiveBusy
  /-- `report_transmit_capacity(b)`. -/
  | reportTransmitCapacity (space : Bool)
  /-- `request_pause()`. -/
  | requestPause
  /-- `request_resume()`. -/
  | requestResume
  /-- `is_paused()`. -/
  | isPaused
  /-- `is_crashed()`. -/
  | isCrashed
  deriving DecidableEq, Repr

/-- What a port returns (60_exceptions.md R345). -/
inductive PortResult where
  /-- Nothing. -/
  | none
  /-- The cycles consumed. -/
  | cycles (n : Nat)
  /-- Accepted or overrun. -/
  | feed (r : FeedResult)
  /-- A byte, or none. -/
  | byte (v : Option Byte)
  /-- A boolean. -/
  | bool (v : Bool)
  deriving DecidableEq, Repr

/-- A call of a port: its result and the state after it. It is defined whenever the host calls; when the host may call is
`PortCall.admitted` (60_exceptions.md R346, R351). -/
def callPort (p : Params) (call : PortCall) (s : State) : Host.Outcome (PortResult × State) Fault Refusal :=
  match call with
  | .reset kind => .next (.none, resetPort kind s)
  | .run budget =>
    match run p budget s with
    | .next r => .next (.cycles r.1, r.2)
    | .fault e => .fault e
    | .refused e => .refused e
  | .feedInbound v => .next (.feed (feedInboundWith p.overrunPolicy v s).1, (feedInboundWith p.overrunPolicy v s).2)
  | .drainOutbound => .next (.byte (drainOutbound s).1, (drainOutbound s).2)
  | .isReceiveBusy => .next (.bool (isReceiveBusy s), s)
  | .reportTransmitCapacity space => .next (.none, reportTransmitCapacity space s)
  | .requestPause => .next (.none, requestPause s)
  | .requestResume => .next (.none, requestResume s)
  | .isPaused => .next (.bool (isPaused s), s)
  | .isCrashed => .next (.bool (isCrashed s), s)

end Sys2Proof.Machine
end

