-- ==== Sys2Proof/Machine/Batch.lean ====
section
/-! DEFINITION. The block as its host sees it: a state and the `run` in progress, if any. `run` is cut into its entry and its
turns, so that the ports the host's other context may call at any time act between two steps of a run, and the byte ports
and the resets between two runs (00_scope.md R5, 60_exceptions.md R346). -/

namespace Sys2Proof.Machine

open Sys2Proof

/-- A `run` in progress (60_exceptions.md R347). -/
structure Batch where
  /-- `cycle_budget`. -/
  budget : Int
  /-- The cycles consumed so far. -/
  consumed : Nat
  deriving DecidableEq, Repr

/-- The block between two steps. -/
structure Block where
  /-- The state. -/
  state : State
  /-- The `run` in progress, none between two runs. -/
  batch : Option Batch
  deriving DecidableEq, Repr

/-- The entry of `run(budget)`: it returns at once if the core is paused (60_exceptions.md R347, R348). -/
def enterRun (budget : Int) (s : State) : Block :=
  { state := latchPause s, batch := if (latchPause s).paused then none else some { budget := budget, consumed := 0 } }

/-- One turn of the loop of `run`: a step, or the end of the run (60_exceptions.md R347). -/
def turn (p : Params) (b : Batch) (s : State) : Host.Outcome Block Fault Refusal :=
  if (b.consumed : Int) < b.budget && !s.crashed then
    match stepCounted p s with
    | .next t => .next { state := t.1, batch := some { b with consumed := b.consumed + t.2 } }
    | .fault r => .fault r
    | .refused r => .refused r
  else .next { state := addCycles b.consumed s, batch := none }

/-- When the host may call a port (60_exceptions.md R346): a byte port between two runs and not while paused, any other call
of these being refused (93_implementation_defined.md U23); `reset` and `run` between two runs; `request_pause`,
`request_resume` and the queries at any point between two steps. -/
def PortCall.admitted (call : PortCall) (b : Block) : Bool :=
  match call with
  | .feedInbound _ => b.batch.isNone && !b.state.paused
  | .drainOutbound => b.batch.isNone && !b.state.paused
  | .reportTransmitCapacity _ => b.batch.isNone && !b.state.paused
  | .reset _ => b.batch.isNone
  | .run _ => b.batch.isNone
  | .isReceiveBusy => true
  | .requestPause => true
  | .requestResume => true
  | .isPaused => true
  | .isCrashed => true

/-- A host's call of a port on the block: that of `callPort` where the host may make it, refused elsewhere
(93_implementation_defined.md U23; log 15). -/
def hostCall (p : Params) (call : PortCall) (b : Block) : Host.Outcome (PortResult × Block) Fault Refusal :=
  if call.admitted b then
    match callPort p call b.state with
    | .next r => .next (r.1, { b with state := r.2 })
    | .fault e => .fault e
    | .refused e => .refused e
  else .refused .portNotAdmitted

end Sys2Proof.Machine
end

