-- ==== Sys2Proof/Safety.lean ====
section
/-! DEFINITION. What the spec calls a good run, in the terms statements use: the invariant of the state, the transitions of
the block, a crashed, a stuck and a finished program, and the firmware image as a constant of a run. -/

namespace Sys2Proof.Machine

open Sys2Proof

/-! ### The invariant -/

/-- The window addresses that a peripheral owns (20_memory.md R66). -/
def ownedAddresses : List Nat :=
  [0x08, 0x09, 0x0A, 0x0B, 0x0C, 0x11, 0x12, 0x13]

/-- What holds of the state between any two steps, whatever the program and the host do. -/
structure State.Inv (s : State) : Prop where
  /-- The stored bytes keep their canonical form (log 11). -/
  memWf : s.mem.wf = true
  /-- The outbound queue holds at most `TXQ_CAP` bytes, if it is bounded (60_exceptions.md R336, R342). -/
  queueBounded : ∀ cap, Config.txqCap = some cap → s.serial.txq.length ≤ cap
  /-- The clear of OCF is armed only while OCF is 1 (60_exceptions.md R325, R327). -/
  armedWithFlag : s.timer.ocfArmed = true → s.timer.ocf = true
  /-- ORFE is 1 only while a byte is unread (60_exceptions.md R331, R334). -/
  overrunWithByte : s.serial.orfe = true → s.serial.rdrf = true
  /-- A crashed core is in no wait state (60_exceptions.md R301, R313). -/
  crashedRuns : s.crashed = true → s.waitState = .run
  /-- The core is paused only under a pause request (60_exceptions.md R348). -/
  pausedOnRequest : s.paused = true → s.pauseReq = true
  /-- A PORT event carries an unowned window address (20_memory.md R67). -/
  eventsUnowned : ∀ e ∈ s.portEvents, e.1 < 32 ∧ e.1 ∉ ownedAddresses

/-! ### Transitions -/

/-- One transition of the block: the entry or a turn of a `run`, or a call of another port where the host may make it
(00_scope.md R5, 60_exceptions.md R346, 93_implementation_defined.md U23). -/
inductive Transition (p : Params) : Block → Block → Prop where
  /-- `run` is entered (60_exceptions.md R347). -/
  | enter (budget : Int) (s : State) : Transition p { state := s, batch := none } (enterRun budget s)
  /-- A `run` in progress takes a step of the core or ends (60_exceptions.md R313, R347). -/
  | turn (b : Batch) (s : State) (t : Block) (h : turn p b s = .next t) : Transition p { state := s, batch := some b } t
  /-- A port other than `run` is called and not refused (60_exceptions.md R345). -/
  | port (call : PortCall) (b c : Block) (r : PortResult) (hr : ∀ budget, call ≠ .run budget)
      (h : hostCall p call b = .next (r, c)) : Transition p b c

/-- The blocks that one with this image can come to, after the cold reset that follows construction. -/
inductive Reachable (p : Params) (image : List Byte) : Block → Prop where
  /-- Constructed and cold reset (60_exceptions.md R351 row 8). -/
  | start (uses : List HandlerVector) (s : State) (h : construct uses image = some s) :
      Reachable p image { state := s, batch := none }
  /-- One transition on. -/
  | next (b c : Block) (hb : Reachable p image b) (h : Transition p b c) : Reachable p image c

/-! ### The image -/

/-- The two states hold the same byte at every image address (20_memory.md R65). -/
def SameImage (s t : State) : Prop :=
  ∀ addr : Nat, romBase ≤ addr → addr < romBase + romSize → t.mem.read addr = s.mem.read addr

/-! ### Good, stuck and finished states -/

/-- No failure the spec names: the core has not crashed (60_exceptions.md R301) and no outbound byte has been lost
(60_exceptions.md R342). -/
def State.Safe (s : State) : Prop :=
  s.crashed = false ∧ s.serial.sat = false

/-- A state that only a reset ends: WAI with I = 1 (70_reset_and_hazards.md R396). -/
def State.Stuck (s : State) : Prop :=
  s.crashed = false ∧ s.waitState = .wai ∧ s.ccr.i = true

/-- The program has finished at a branch to itself at `addr`, with nothing pending (70_reset_and_hazards.md R400). -/
def State.FinishedAt (s : State) (addr : Word) : Prop :=
  s.crashed = false ∧ s.waitState = .run ∧ s.pc = addr ∧ s.mem.read addr.toNat = 0x20 ∧
    s.mem.read (addr + 1).toNat = 0xFE ∧ s.pendingVector = none

/-- The program has finished in the WAI state, with I = 0 stacked and nothing pending (70_reset_and_hazards.md R400): the CCR
byte of the frame stands in RAM and has I = 0, and so has the core, for WAI writes no flag (44_system.md R281). A frame that
was lost, outside RAM, is no finish; nor is a stuck state. -/
def State.FinishedWaiting (s : State) : Prop :=
  s.crashed = false ∧ s.waitState = .wai ∧ s.ccr.i = false ∧ region (s.sp + 1) = .ram ∧
    (Ccr.ofByte (s.mem.read (s.sp + 1).toNat)).i = false ∧ s.pendingVector = none

end Sys2Proof.Machine
end

