-- ==== Sys2Proof/Certificates/Slice0/Obligations.lean ====
section
/-! DEFINITION. The statements for the provers. First the vocabulary they share (`Sys2Proof.Claims`), written from the
rules and not from the model's own definitions; then the statements. An instruction's statement gives the whole next state:
`{ s with … }` keeps every field it does not name, so it is the instruction's frame as well. `pcAfter` is the address after
the instruction's last byte. -/

namespace Sys2Proof.Claims

open Sys2Proof Sys2Proof.Machine

/-- The address after the last byte of `i`, which stands at pc (30_encoding.md R101). -/
def pcAfter (i : Instr) (s : State) : Word :=
  s.pc + BitVec.ofNat 16 (encode i).length

/-- `s` with what reads may change taken from `t`: flags of the peripherals and the count of arbitrary values. -/
def readsOf (s t : State) : State :=
  { s with timer := t.timer, serial := t.serial, draws := t.draws }

/-- `s` with what writes may change taken from `t`: stored bytes, the peripherals, the PORT events. -/
def writesOf (s t : State) : State :=
  { s with mem := t.mem, timer := t.timer, serial := t.serial, portEvents := t.portEvents }

/-- `s` with what reads and writes may change taken from `t`. -/
def accessesOf (s t : State) : State :=
  { s with
    mem := t.mem, timer := t.timer, serial := t.serial, portEvents := t.portEvents, draws := t.draws }

/-- The bytes of `n` reads at ascending addresses modulo 2^16, and the state after them. -/
def readBytes : Nat → Word → State → List Byte × State
  | 0, _, s => ([], s)
  | n + 1, addr, s =>
    let m := memRead addr s
    let rest := readBytes n (addr + 1) m.2
    (m.1 :: rest.1, rest.2)

/-- Only the byte at `addr` may differ between `s` and `t`, and none outside RAM; in RAM it is `v`. -/
def ByteStored (addr : Word) (v : Byte) (s t : State) : Prop :=
  (∀ a : Nat, a ≠ addr.toNat → t.mem.read a = s.mem.read a) ∧ (region addr ≠ .ram → t.mem = s.mem) ∧
    (s.mem.wf = true → region addr = .ram → t.mem.read addr.toNat = v)

/-- Only the bytes at `addr` and `addr + 1` may differ between `s` and `t`, and none outside RAM; in RAM the first is the
high byte of `v`, the second the low byte. -/
def WordStored (addr v : Word) (s t : State) : Prop :=
  (∀ a : Nat, a ≠ addr.toNat → a ≠ (addr + 1).toNat → t.mem.read a = s.mem.read a) ∧
    (region addr ≠ .ram → t.mem.read addr.toNat = s.mem.read addr.toNat) ∧
    (region (addr + 1) ≠ .ram → t.mem.read (addr + 1).toNat = s.mem.read (addr + 1).toNat) ∧
    (s.mem.wf = true → region addr = .ram → (t.mem.read addr.toNat).toNat = v.toNat / 256) ∧
    (s.mem.wf = true → region (addr + 1) = .ram → (t.mem.read (addr + 1).toNat).toNat = v.toNat % 256)

/-- The CCR byte of six flags: 1 1 H I N Z V C (10_state.md R29). -/
def ccrByte (f : Ccr) : Byte :=
  BitVec.ofNat 8
    (192 + 32 * f.h.toNat + 16 * f.i.toNat + 8 * f.n.toNat + 4 * f.z.toNat + 2 * f.v.toNat + f.c.toNat)

/-- The seven bytes of the interrupt frame in the order they are pushed, `ret` being the pushed pc (60_exceptions.md R310). -/
def frameBytes (ret : Word) (s : State) : List Byte :=
  [BitVec.ofNat 8 ret.toNat, BitVec.ofNat 8 (ret.toNat / 256), BitVec.ofNat 8 s.x.toNat,
    BitVec.ofNat 8 (s.x.toNat / 256), s.a, s.b, ccrByte s.ccr]

/-- The frame of `s` with return address `ret` lies in `t` at SP, SP - 1, …, SP - 6, as far as that is RAM; every other
stored byte is as in `s`; and if none of the seven addresses is in the window, so are the peripherals. -/
def FrameStored (ret : Word) (s t : State) : Prop :=
  (∀ a : Nat, (∀ k < 7, a ≠ (s.sp - BitVec.ofNat 16 k).toNat) → t.mem.read a = s.mem.read a) ∧
    (s.mem.wf = true → ∀ k < 7, region (s.sp - BitVec.ofNat 16 k) = .ram →
      (frameBytes ret s)[k]? = some (t.mem.read (s.sp - BitVec.ofNat 16 k).toNat)) ∧
    ((∀ k < 7, region (s.sp - BitVec.ofNat 16 k) ≠ .reg) →
      t.timer = s.timer ∧ t.serial = s.serial ∧ t.portEvents = s.portEvents)

/-- The seven addresses a push of a frame writes, and those a pull of it reads back, are RAM. -/
def FrameInRam (sp : Word) : Prop :=
  ∀ k < 7, region (sp - BitVec.ofNat 16 k) = .ram

/-! ### Flags and results from the exact arithmetic of the rules -/

/-- N and Z of a byte, V as given; H, I and C are kept. -/
def flags8 (cc : Ccr) (v : Byte) (overflow : Bool) : Ccr :=
  { cc with n := decide (128 ≤ v.toNat), z := decide (v.toNat = 0), v := overflow }

/-- N and Z of a word, V as given; H, I and C are kept. -/
def flags16 (cc : Ccr) (v : Word) (overflow : Bool) : Ccr :=
  { cc with n := decide (32768 ≤ v.toNat), z := decide (v.toNat = 0), v := overflow }

/-- The value is no two's-complement byte. -/
def outside8 (k : Int) : Bool :=
  decide (k < -128) || decide (127 < k)

/-- The value is no two's-complement word. -/
def outside16 (k : Int) : Bool :=
  decide (k < -32768) || decide (32767 < k)

/-- Eight-bit addition with carry in: H the carry out of bit 3, C out of bit 7, V signed overflow (41_arithmetic.md R152). -/
def sum8 (cc : Ccr) (a m : Byte) (cin : Bool) : Byte × Ccr :=
  let res := BitVec.ofNat 8 (a.toNat + m.toNat + cin.toNat)
  (res,
    { flags8 cc res (outside8 (a.toInt + m.toInt + cin.toNat)) with
      h := decide (15 < a.toNat % 16 + m.toNat % 16 + cin.toNat)
      c := decide (255 < a.toNat + m.toNat + cin.toNat) })

/-- Eight-bit subtraction with borrow in: C the borrow, V signed overflow, H kept (41_arithmetic.md R153). -/
def diff8 (cc : Ccr) (a m : Byte) (bin : Bool) : Byte × Ccr :=
  let res := BitVec.ofNat 8 (a.toNat + 512 - m.toNat - bin.toNat)
  (res,
    { flags8 cc res (outside8 (a.toInt - m.toInt - bin.toNat)) with
      c := decide (a.toNat < m.toNat + bin.toNat) })

/-- Sixteen-bit addition (41_arithmetic.md R154). -/
def sum16 (cc : Ccr) (a m : Word) : Word × Ccr :=
  let res := BitVec.ofNat 16 (a.toNat + m.toNat)
  (res, { flags16 cc res (outside16 (a.toInt + m.toInt)) with c := decide (65535 < a.toNat + m.toNat) })

/-- Sixteen-bit subtraction (41_arithmetic.md R155). -/
def diff16 (cc : Ccr) (a m : Word) : Word × Ccr :=
  let res := BitVec.ofNat 16 (a.toNat + 65536 - m.toNat)
  (res, { flags16 cc res (outside16 (a.toInt - m.toInt)) with c := decide (a.toNat < m.toNat) })

/-- Negation: V exactly for the result $80, C exactly for a result other than $00 (41_arithmetic.md R172). -/
def negated (cc : Ccr) (m : Byte) : Byte × Ccr :=
  let res := BitVec.ofNat 8 (256 - m.toNat)
  (res, { flags8 cc res (decide (m.toNat = 128)) with c := decide (m.toNat ≠ 0) })

/-- Increment: V exactly for the operand $7F, C kept (41_arithmetic.md R175). -/
def incremented (cc : Ccr) (m : Byte) : Byte × Ccr :=
  let res := BitVec.ofNat 8 (m.toNat + 1)
  (res, flags8 cc res (decide (m.toNat = 127)))

/-- Decrement: V exactly for the operand $80, C kept (41_arithmetic.md R178). -/
def decremented (cc : Ccr) (m : Byte) : Byte × Ccr :=
  let res := BitVec.ofNat 8 (m.toNat + 255)
  (res, flags8 cc res (decide (m.toNat = 128)))

/-- One's complement: V cleared, C set (42_logic_shift_bit.md R210). -/
def complemented (cc : Ccr) (m : Byte) : Byte × Ccr :=
  let res := BitVec.ofNat 8 (255 - m.toNat)
  (res, { flags8 cc res false with c := true })

/-- A shifted byte and the bit that left it: N, Z from the result, C that bit, V = N xor C (42_logic_shift_bit.md R200). -/
def shifted (cc : Ccr) (res : Byte) (out : Bool) : Byte × Ccr :=
  (res, { flags8 cc res (xor (decide (128 ≤ res.toNat)) out) with c := out })

/-- Shift left, 0 entering (42_logic_shift_bit.md R213). -/
def shiftLeft (cc : Ccr) (m : Byte) : Byte × Ccr :=
  shifted cc (BitVec.ofNat 8 (2 * m.toNat)) (decide (128 ≤ m.toNat))

/-- Shift right, the sign kept: the signed value halved, rounded down (42_logic_shift_bit.md R216). -/
def shiftRightSigned (cc : Ccr) (m : Byte) : Byte × Ccr :=
  shifted cc (BitVec.ofInt 8 (m.toInt / 2)) (decide (m.toNat % 2 = 1))

/-- Shift right, 0 entering (42_logic_shift_bit.md R219). -/
def shiftRight (cc : Ccr) (m : Byte) : Byte × Ccr :=
  shifted cc (BitVec.ofNat 8 (m.toNat / 2)) (decide (m.toNat % 2 = 1))

/-- Rotate left through C (42_logic_shift_bit.md R222). -/
def rotateLeft (cc : Ccr) (m : Byte) : Byte × Ccr :=
  shifted cc (BitVec.ofNat 8 (2 * m.toNat + cc.c.toNat)) (decide (128 ≤ m.toNat))

/-- Rotate right through C (42_logic_shift_bit.md R225). -/
def rotateRight (cc : Ccr) (m : Byte) : Byte × Ccr :=
  shifted cc (BitVec.ofNat 8 (m.toNat / 2 + 128 * cc.c.toNat)) (decide (m.toNat % 2 = 1))

/-! ### Shapes of an instruction's effect -/

/-- `i` reads its byte operand `src`, puts the result of `f` into accumulator `r`, and writes the flags `f` gives. -/
def AccFromOperand (i : Instr) (r : Acc) (src : Src8) (s : State) (f : Byte → Byte × Ccr) : Prop :=
  let m := operand8 src s
  exec i s = .next ({ readsOf s m.2 with ccr := (f m.1).2, pc := pcAfter i s }.setAcc r (f m.1).1)

/-- `i` reads its byte operand `src` and writes the flags `f` gives, and nothing else. -/
def FlagsFromOperand (i : Instr) (src : Src8) (s : State) (f : Byte → Ccr) : Prop :=
  let m := operand8 src s
  exec i s = .next { readsOf s m.2 with ccr := f m.1, pc := pcAfter i s }

/-- `i` puts the result of `f` into accumulator `r`, and writes the flags `f` gives. -/
def AccFromAcc (i : Instr) (r : Acc) (s : State) (f : Byte × Ccr) : Prop :=
  exec i s = .next ({ s with ccr := f.2, pc := pcAfter i s }.setAcc r f.1)

/-- `i` reads the byte at `addr`, writes the result of `f` back to `addr`, and writes the flags `f` gives. -/
def ByteModified (i : Instr) (addr : Word) (s : State) (f : Byte → Byte × Ccr) : Prop :=
  let m := memRead addr s
  let t := memWrite addr (f m.1).1 m.2
  exec i s = .next { accessesOf s t with ccr := (f m.1).2, pc := pcAfter i s } ∧ ByteStored addr (f m.1).1 s t

end Sys2Proof.Claims

open Sys2Proof Sys2Proof.Machine Sys2Proof.Claims

/-! ### Encoding and decoding -/

/-- Decoding an encoded well-formed instruction gives it back and leaves the bytes after it, for every constructor and
every operand value (R90 to R100). -/
def Obligations.DecodeOfEncode : Prop :=
  ∀ (i : Instr) (rest : List Byte), i.wellFormed = true → decode (encode i ++ rest) = .ok (i, rest)

/-- What is decoded is well formed, and its encoding is exactly the bytes taken: no two byte strings of the length of an
instruction are the same instruction (R90, R102). -/
def Obligations.EncodeOfDecode : Prop :=
  ∀ (bytes rest : List Byte) (i : Instr), decode bytes = .ok (i, rest) → i.wellFormed = true ∧ encode i ++ rest = bytes

/-- The 26 bytes of R104, and no other, decode to an illegal opcode under the default table, and no operand byte is taken with
them (R102; log 25). -/
def Obligations.IllegalOpcodesAreTwentySix : Prop :=
  ∀ (op : Byte) (rest : List Byte),
    (decode (op :: rest) = .ok (.illegal op, rest) ↔
      op ∈ [0x00#8, 0x02#8, 0x03#8, 0x12#8, 0x13#8, 0x14#8, 0x15#8, 0x1C#8, 0x1D#8, 0x1E#8, 0x1F#8, 0x41#8, 0x42#8,
        0x45#8, 0x4B#8, 0x4E#8, 0x51#8, 0x52#8, 0x55#8, 0x5B#8, 0x5E#8, 0x87#8, 0x8F#8, 0xC7#8, 0xCD#8, 0xCF#8]) ∧
    ∀ (op' : Byte) (rest' : List Byte), decode (op :: rest) = .ok (.illegal op', rest') → op' = op ∧ rest' = rest

/-- One word of each format, written out from the format's rule, decodes to its instruction (R92 to R100). -/
def Obligations.SampleWordsDecode : Prop :=
  decode [0x1B] = .ok (.aba, []) ∧ decode [0x86, 0x80] = .ok (.ldaaImm 0x80, []) ∧
    decode [0x8C, 0x10, 0x01] = .ok (.cpxImm 0x1001, []) ∧ decode [0x97, 0x90] = .ok (.staaDir 0x90, []) ∧
    decode [0xA6, 0x81] = .ok (.ldaaIdx 0x81, []) ∧ decode [0xBD, 0xF1, 0x00] = .ok (.jsrExt 0xF100, []) ∧
    decode [0x26, 0xFE] = .ok (.bne 0xFE, []) ∧ decode [0x71, 0x0F, 0x90] = .ok (.aimDir 0x0F 0x90, []) ∧
    decode [0x6B, 0x80, 0x04] = .ok (.timIdx 0x80 0x04, []) ∧ decode [0x3F] = .ok (.swi, [])

/-! ### Memory -/

/-- A byte written to RAM is read back, without a side effect, and no other stored byte changes by the write (R64). The
canonical form of the memory is the premise; `InvariantKeptByStep` states that it always holds. -/
def Obligations.RamReadsBack : Prop :=
  ∀ (addr : Word) (v : Byte) (s : State), s.mem.wf = true → 0x80 ≤ addr.toNat → addr.toNat ≤ 0xFF →
    memRead addr (memWrite addr v s) = (v, memWrite addr v s) ∧ (memWrite addr v s).mem.wf = true ∧
      (memWrite addr v s) = { s with mem := (memWrite addr v s).mem } ∧
      ∀ other : Word, other ≠ addr → region other ≠ .reg → region other ≠ .unmapped →
        (memRead other (memWrite addr v s)).1 = (memRead other s).1

/-- The addresses that store nothing. A write to the image or to an unmapped address changes no state at all; a read of the
image gives its byte without a side effect. A read of an unmapped address, of an unowned window address or of TDR gives the
next arbitrary byte and changes only the count of such values; a write to an unowned window address is reported as a PORT
event and changes nothing else (R65, R67, R68, R339). The count and the event list are the model's own (log 6, log 10). -/
def Obligations.AddressesWithoutStorage : Prop :=
  ∀ (addr : Word) (v : Byte) (s : State),
    (0xF000 ≤ addr.toNat → memWrite addr v s = s ∧ memRead addr s = (s.mem.read addr.toNat, s)) ∧
    ((0x20 ≤ addr.toNat ∧ addr.toNat ≤ 0x7F ∨ 0x100 ≤ addr.toNat ∧ addr.toNat ≤ 0xEFFF) →
      memWrite addr v s = s ∧ memRead addr s = (Config.freeByte s.draws, { s with draws := s.draws + 1 })) ∧
    (addr.toNat < 32 → addr.toNat ∉ [0x08, 0x09, 0x0A, 0x0B, 0x0C, 0x11, 0x12, 0x13] →
      memRead addr s = (Config.freeByte s.draws, { s with draws := s.draws + 1 }) ∧
      memWrite addr v s = { s with portEvents := s.portEvents ++ [(addr.toNat, v)] }) ∧
    memRead 0x13#16 s = (Config.freeByte s.draws, { s with draws := s.draws + 1 })

/-- The timer's five window addresses: TCSR reads 0 OCF 0 and its five stored bits, and arms the clear of OCF if OCF is 1;
the counter's halves are read and not written; a write of TCSR stores bits 4 to 0; a write of a half of OCR stores that half
and completes an armed clear (R322 to R327). -/
def Obligations.TimerWindow : Prop :=
  ∀ (v : Byte) (s : State),
    memRead 0x08#16 s =
        (BitVec.ofNat 8 (64 * s.timer.ocf.toNat + s.timer.tcsrLo.toNat),
          { s with timer := { s.timer with ocfArmed := if s.timer.ocf then true else s.timer.ocfArmed } }) ∧
      memRead 0x09#16 s = (BitVec.ofNat 8 (s.timer.counter.toNat / 256), s) ∧
      memRead 0x0A#16 s = (BitVec.ofNat 8 s.timer.counter.toNat, s) ∧
      memRead 0x0B#16 s = (BitVec.ofNat 8 (s.timer.ocr.toNat / 256), s) ∧
      memRead 0x0C#16 s = (BitVec.ofNat 8 s.timer.ocr.toNat, s) ∧
      memWrite 0x08#16 v s = { s with timer := { s.timer with tcsrLo := BitVec.ofNat 5 v.toNat } } ∧
      memWrite 0x09#16 v s = s ∧ memWrite 0x0A#16 v s = s ∧
      memWrite 0x0B#16 v s =
        { s with timer := { s.timer with
            ocr := BitVec.ofNat 16 (256 * v.toNat + s.timer.ocr.toNat % 256)
            ocf := if s.timer.ocfArmed then false else s.timer.ocf
            ocfArmed := false } } ∧
      memWrite 0x0C#16 v s =
        { s with timer := { s.timer with
            ocr := BitVec.ofNat 16 (256 * (s.timer.ocr.toNat / 256) + v.toNat)
            ocf := if s.timer.ocfArmed then false else s.timer.ocf
            ocfArmed := false } }

/-- No memory access clears OCF but a write to either half of OCR with the clear armed, and none sets it (R321, R326,
R327). -/
def Obligations.OcfClearedByArmedWriteOnly : Prop :=
  ∀ (addr : Word) (v : Byte) (s : State),
    (memRead addr s).2.timer.ocf = s.timer.ocf ∧
      (memRead addr s).2.timer.ocfArmed = (s.timer.ocfArmed || (addr == 0x08#16 && s.timer.ocf)) ∧
      (memWrite addr v s).timer.ocf =
        (s.timer.ocf && !(s.timer.ocfArmed && (addr == 0x0B#16 || addr == 0x0C#16))) ∧
      (memWrite addr v s).timer.counter = s.timer.counter

/-- The serial peripheral's three window addresses: TRCSR reads its flags and stored bits without a side effect and stores
bits 4 to 0; a read of RDR gives `rdr` and clears RDRF and ORFE; a write of RDR does nothing; a write of TDR clears TDRE and
queues the byte, or sets `sat` if the queue is full, that is if it holds `TXQ_CAP` bytes, which an unbounded queue never does
(R333 to R336, R339, R342). -/
def Obligations.SerialWindow : Prop :=
  ∀ (v : Byte) (s : State),
    memRead 0x11#16 s =
        (BitVec.ofNat 8
          (128 * s.serial.rdrf.toNat + 64 * s.serial.orfe.toNat + 32 * s.serial.tdre.toNat + s.serial.trcsrLo.toNat), s) ∧
      memRead 0x12#16 s = (s.serial.rdr, { s with serial := { s.serial with rdrf := false, orfe := false } }) ∧
      memWrite 0x11#16 v s = { s with serial := { s.serial with trcsrLo := BitVec.ofNat 5 v.toNat } } ∧
      memWrite 0x12#16 v s = s ∧
      memWrite 0x13#16 v s =
        { s with serial := { s.serial with
            tdr := v
            tdre := false
            txq := if Config.txqHasRoom s.serial.txq.length then s.serial.txq ++ [v] else s.serial.txq
            sat := if Config.txqHasRoom s.serial.txq.length then s.serial.sat else true } } ∧
      ∀ n : Nat, Config.txqHasRoom n = true ↔ Config.txqCap = none ∨ ∃ cap, Config.txqCap = some cap ∧ n < cap

/-- A two-byte read takes the byte at the address as the high byte, then the byte at the next address modulo 2^16; a
two-byte write stores the high byte first (R69, R70). A push writes at SP and then decrements it, a pull increments SP and
reads there; a word is pushed low byte first, and so lies high byte at the lower address, and is pulled high byte first
(R75). -/
def Obligations.WordsAndStack : Prop :=
  ∀ (addr v : Word) (byte : Byte) (s : State),
    let nextAddr : Word := BitVec.ofNat 16 ((addr.toNat + 1) % 65536)
    let lo : Byte := BitVec.ofNat 8 v.toNat
    let hi : Byte := BitVec.ofNat 8 (v.toNat / 256)
    (memRead16 addr s).1.toNat = 256 * (memRead addr s).1.toNat + (memRead nextAddr (memRead addr s).2).1.toNat ∧
      (memRead16 addr s).2 = (memRead nextAddr (memRead addr s).2).2 ∧
      memWrite16 addr v s = memWrite nextAddr lo (memWrite addr hi s) ∧
      push8 byte s = { memWrite s.sp byte s with sp := s.sp - 1 } ∧
      pull8 s = ((memRead (s.sp + 1) s).1, { (memRead (s.sp + 1) s).2 with sp := s.sp + 1 }) ∧
      push16 v s = { memWrite (s.sp - 1) hi (memWrite s.sp lo s) with sp := s.sp - 2 } ∧
      pull16 s = ((memRead16 (s.sp + 1) s).1, { (memRead16 (s.sp + 1) s).2 with sp := s.sp + 2 })

/-- Where an operand comes from: the immediate itself, or memory at the zero-extended direct address, at X plus the unsigned
offset modulo 2^16, or at the extended address (R95 to R97, R109 to R111). -/
def Obligations.OperandSources : Prop :=
  ∀ (ii dd ff : Byte) (hhll jjkk : Word) (m : Ea) (s : State),
    ((Ea.dir dd).addr s).toNat = dd.toNat ∧ ((Ea.idx ff).addr s).toNat = (s.x.toNat + ff.toNat) % 65536 ∧
      (Ea.ext hhll).addr s = hhll ∧ operand8 (.imm ii) s = (ii, s) ∧ operand16 (.imm jjkk) s = (jjkk, s) ∧
      operand8 (.mem m) s = memRead (m.addr s) s ∧ operand16 (.mem m) s = memRead16 (m.addr s) s

/-! ### Loads, stores, transfers, the stack -/

/-- LDAA, LDAB, LDD, LDX, LDS in every form: the register takes the operand; N and Z from all its bits, V cleared (R120 to
R124). -/
def Obligations.Loads : Prop :=
  ∀ (src : Src8) (wide : Src16) (s : State),
    let m := operand16 wide s
    AccFromOperand (formLdaa src) .a src s (fun v => (v, flags8 s.ccr v false)) ∧
      AccFromOperand (formLdab src) .b src s (fun v => (v, flags8 s.ccr v false)) ∧
      exec (formLdd wide) s = .next { readsOf s m.2 with
        a := BitVec.ofNat 8 (m.1.toNat / 256), b := BitVec.ofNat 8 m.1.toNat
        ccr := flags16 s.ccr m.1 false, pc := pcAfter (formLdd wide) s } ∧
      exec (formLdx wide) s = .next { readsOf s m.2 with
        x := m.1, ccr := flags16 s.ccr m.1 false, pc := pcAfter (formLdx wide) s } ∧
      exec (formLds wide) s = .next { readsOf s m.2 with
        sp := m.1, ccr := flags16 s.ccr m.1 false, pc := pcAfter (formLds wide) s }

/-- STAA, STAB, STD, STX, STS in every form: the register is written to the effective address, with no read, a word high
byte first; N and Z from all its bits, V cleared; no other stored byte changes (R125 to R129). -/
def Obligations.Stores : Prop :=
  ∀ (m : Ea) (s : State),
    let addr := m.addr s
    let d : Word := BitVec.ofNat 16 (256 * s.a.toNat + s.b.toNat)
    exec (formStaa m) s = .next { writesOf s (memWrite addr s.a s) with
        ccr := flags8 s.ccr s.a false, pc := pcAfter (formStaa m) s } ∧
      ByteStored addr s.a s (memWrite addr s.a s) ∧
      exec (formStab m) s = .next { writesOf s (memWrite addr s.b s) with
        ccr := flags8 s.ccr s.b false, pc := pcAfter (formStab m) s } ∧
      ByteStored addr s.b s (memWrite addr s.b s) ∧
      exec (formStd m) s = .next { writesOf s (memWrite16 addr d s) with
        ccr := flags16 s.ccr d false, pc := pcAfter (formStd m) s } ∧
      WordStored addr d s (memWrite16 addr d s) ∧
      exec (formStx m) s = .next { writesOf s (memWrite16 addr s.x s) with
        ccr := flags16 s.ccr s.x false, pc := pcAfter (formStx m) s } ∧
      WordStored addr s.x s (memWrite16 addr s.x s) ∧
      exec (formSts m) s = .next { writesOf s (memWrite16 addr s.sp s) with
        ccr := flags16 s.ccr s.sp false, pc := pcAfter (formSts m) s } ∧
      WordStored addr s.sp s (memWrite16 addr s.sp s)

/-- TAB and TBA copy and set N, Z, V; TSX, TXS and XGDX move sixteen bits and write no flag (R130 to R134). -/
def Obligations.Transfers : Prop :=
  ∀ s : State,
    exec .tab s = .next { s with b := s.a, ccr := flags8 s.ccr s.a false, pc := s.pc + 1 } ∧
      exec .tba s = .next { s with a := s.b, ccr := flags8 s.ccr s.b false, pc := s.pc + 1 } ∧
      exec .tsx s = .next { s with x := s.sp + 1, pc := s.pc + 1 } ∧
      exec .txs s = .next { s with sp := s.x - 1, pc := s.pc + 1 } ∧
      exec .xgdx s = .next { s with
        a := BitVec.ofNat 8 (s.x.toNat / 256), b := BitVec.ofNat 8 s.x.toNat
        x := BitVec.ofNat 16 (256 * s.a.toNat + s.b.toNat), pc := s.pc + 1 }

/-- PSHA, PSHB, PSHX: the bytes go to SP, and for X to SP - 1 as well, the high byte at the lower address; SP goes down by
one or two. PULA, PULB, PULX: the bytes come from SP + 1, and for X from SP + 2 as well, the high byte first; SP goes up by
one or two. No flag and no other stored byte changes (R135 to R140). -/
def Obligations.PushesAndPulls : Prop :=
  ∀ s : State,
    let ta := memWrite s.sp s.a s
    let tb := memWrite s.sp s.b s
    let tx := memWrite (s.sp - 1) (BitVec.ofNat 8 (s.x.toNat / 256)) (memWrite s.sp (BitVec.ofNat 8 s.x.toNat) s)
    let m := memRead (s.sp + 1) s
    let w := memRead16 (s.sp + 1) s
    exec .psha s = .next { writesOf s ta with sp := s.sp - 1, pc := s.pc + 1 } ∧ ByteStored s.sp s.a s ta ∧
      exec .pshb s = .next { writesOf s tb with sp := s.sp - 1, pc := s.pc + 1 } ∧ ByteStored s.sp s.b s tb ∧
      exec .pshx s = .next { writesOf s tx with sp := s.sp - 2, pc := s.pc + 1 } ∧ WordStored (s.sp - 1) s.x s tx ∧
      exec .pula s = .next { readsOf s m.2 with a := m.1, sp := s.sp + 1, pc := s.pc + 1 } ∧
      exec .pulb s = .next { readsOf s m.2 with b := m.1, sp := s.sp + 1, pc := s.pc + 1 } ∧
      exec .pulx s = .next { readsOf s w.2 with x := w.1, sp := s.sp + 2, pc := s.pc + 1 }

/-- CLRA, CLRB and CLR in every form: $00 is stored, with no read of memory; N, V, C cleared and Z set; no other stored byte
changes (R141 to R143). -/
def Obligations.Clears : Prop :=
  ∀ (m : EaIX) (s : State),
    (let cleared : Ccr := { s.ccr with n := false, z := true, v := false, c := false }
     exec .clra s = .next { s with a := 0, ccr := cleared, pc := s.pc + 1 } ∧
       exec .clrb s = .next { s with b := 0, ccr := cleared, pc := s.pc + 1 } ∧
       (let addr := m.toEa.addr s
        let t := memWrite addr 0 s
        exec (formClr m) s = .next { writesOf s t with ccr := cleared, pc := pcAfter (formClr m) s } ∧
          ByteStored addr 0 s t))

/-! ### Arithmetic -/

/-- The flag functions of the rules: `add8`, `sub8`, `add16`, `sub16` give the exact sum or difference modulo 2^8 or 2^16, N
and Z of it, C the unsigned carry or borrow and V the signed overflow; addition of bytes also H; subtraction keeps H, and
none writes I (R150 to R155). -/
def Obligations.ArithmeticLaws : Prop :=
  ∀ (cc : Ccr) (a m : Byte) (x y : Word) (cin : Bool),
    add8 cc a m cin = sum8 cc a m cin ∧ sub8 cc a m cin = diff8 cc a m cin ∧ add16 cc x y = sum16 cc x y ∧
      sub16 cc x y = diff16 cc x y

/-- ADDA, ADDB, ADCA, ADCB in every form, and ABA (R157 to R161). -/
def Obligations.AddBytes : Prop :=
  ∀ (src : Src8) (s : State),
    AccFromOperand (formAdda src) .a src s (fun m => sum8 s.ccr s.a m false) ∧
      AccFromOperand (formAddb src) .b src s (fun m => sum8 s.ccr s.b m false) ∧
      AccFromOperand (formAdca src) .a src s (fun m => sum8 s.ccr s.a m s.ccr.c) ∧
      AccFromOperand (formAdcb src) .b src s (fun m => sum8 s.ccr s.b m s.ccr.c) ∧
      AccFromAcc .aba .a s (sum8 s.ccr s.a s.b false)

/-- SUBA, SUBB, SBCA, SBCB in every form, and SBA; CMPA, CMPB in every form, and CBA, which write only flags (R164 to R168,
R185 to R187). -/
def Obligations.SubtractAndCompareBytes : Prop :=
  ∀ (src : Src8) (s : State),
    AccFromOperand (formSuba src) .a src s (fun m => diff8 s.ccr s.a m false) ∧
      AccFromOperand (formSubb src) .b src s (fun m => diff8 s.ccr s.b m false) ∧
      AccFromOperand (formSbca src) .a src s (fun m => diff8 s.ccr s.a m s.ccr.c) ∧
      AccFromOperand (formSbcb src) .b src s (fun m => diff8 s.ccr s.b m s.ccr.c) ∧
      AccFromAcc .sba .a s (diff8 s.ccr s.a s.b false) ∧
      FlagsFromOperand (formCmpa src) src s (fun m => (diff8 s.ccr s.a m false).2) ∧
      FlagsFromOperand (formCmpb src) src s (fun m => (diff8 s.ccr s.b m false).2) ∧
      exec .cba s = .next { s with ccr := (diff8 s.ccr s.a s.b false).2, pc := s.pc + 1 }

/-- ADDD, SUBD and CPX in every form: sixteen bits, D = A ++ B; CPX writes only flags (R162, R169, R188). -/
def Obligations.WordArithmetic : Prop :=
  ∀ (src : Src16) (s : State),
    let m := operand16 src s
    let d : Word := BitVec.ofNat 16 (256 * s.a.toNat + s.b.toNat)
    exec (formAddd src) s = .next { readsOf s m.2 with
        a := BitVec.ofNat 8 ((sum16 s.ccr d m.1).1.toNat / 256), b := BitVec.ofNat 8 (sum16 s.ccr d m.1).1.toNat
        ccr := (sum16 s.ccr d m.1).2, pc := pcAfter (formAddd src) s } ∧
      exec (formSubd src) s = .next { readsOf s m.2 with
        a := BitVec.ofNat 8 ((diff16 s.ccr d m.1).1.toNat / 256), b := BitVec.ofNat 8 (diff16 s.ccr d m.1).1.toNat
        ccr := (diff16 s.ccr d m.1).2, pc := pcAfter (formSubd src) s } ∧
      exec (formCpx src) s = .next { readsOf s m.2 with
        ccr := (diff16 s.ccr s.x m.1).2, pc := pcAfter (formCpx src) s }

/-- ABX adds B unsigned to X and writes no flag; INX and DEX write Z alone; INS and DES write no flag; MUL gives the exact
product in D and its bit 7 in C (R163, R170, R181 to R184). -/
def Obligations.IndexArithmeticAndMul : Prop :=
  ∀ s : State,
    exec .abx s = .next { s with x := BitVec.ofNat 16 (s.x.toNat + s.b.toNat), pc := s.pc + 1 } ∧
      exec .inx s = .next { s with
        x := s.x + 1, ccr := { s.ccr with z := decide (s.x.toNat = 65535) }, pc := s.pc + 1 } ∧
      exec .dex s = .next { s with
        x := s.x - 1, ccr := { s.ccr with z := decide (s.x.toNat = 1) }, pc := s.pc + 1 } ∧
      exec .ins s = .next { s with sp := s.sp + 1, pc := s.pc + 1 } ∧
      exec .des s = .next { s with sp := s.sp - 1, pc := s.pc + 1 } ∧
      ∃ a b : Byte, 256 * a.toNat + b.toNat = s.a.toNat * s.b.toNat ∧
        exec .mul s = .next { s with
          a := a, b := b, ccr := { s.ccr with c := decide (128 ≤ s.a.toNat * s.b.toNat % 256) }, pc := s.pc + 1 }

/-- DAA: $06 is added for a low digit above 9 or H, $60 for a high digit above 9, or above 8 with the low digit above 9, or
C; C is set by a carry out and never cleared; N and Z from the result; V is an arbitrary value, drawn (R171, log 8). -/
def Obligations.DecimalAdjust : Prop :=
  ∀ s : State,
    let lo := s.a.toNat % 16
    let hi := s.a.toNat / 16
    let low := if 9 < lo ∨ s.ccr.h = true then 6 else 0
    let high := if (8 < hi ∧ 9 < lo) ∨ 9 < hi ∨ s.ccr.c = true then 96 else 0
    let t := s.a.toNat + low + high
    exec .daa s = .next { s with
      a := BitVec.ofNat 8 t
      ccr := { flags8 s.ccr (BitVec.ofNat 8 t) (Config.freeBit s.draws) with c := s.ccr.c || decide (255 < t) }
      pc := s.pc + 1
      draws := s.draws + 1 }

/-- A decimal addition: ADCA of two numbers of two decimal digits, in every form, then DAA, leaves the decimal digits of their
sum with the carry, and C says that the sum is above 99; whatever V is (R159, R171). -/
def Obligations.DecimalAddition : Prop :=
  ∀ (x y : Nat) (src : Src8) (s t u : State), x < 100 → y < 100 → s.a = BitVec.ofNat 8 (16 * (x / 10) + x % 10) →
    (operand8 src s).1 = BitVec.ofNat 8 (16 * (y / 10) + y % 10) →
    exec (formAdca src) s = .next t → exec .daa t = .next u →
      u.a.toNat = 16 * ((x + y + s.ccr.c.toNat) % 100 / 10) + (x + y + s.ccr.c.toNat) % 10 ∧
        u.ccr.c = decide (99 < x + y + s.ccr.c.toNat)

/-- NEG, INC, DEC, COM, TST of an accumulator (R172, R173, R175, R176, R178, R179, R189, R190, R210, R211). -/
def Obligations.AccumulatorUnary : Prop :=
  ∀ s : State,
    AccFromAcc .nega .a s (negated s.ccr s.a) ∧ AccFromAcc .negb .b s (negated s.ccr s.b) ∧
      AccFromAcc .inca .a s (incremented s.ccr s.a) ∧ AccFromAcc .incb .b s (incremented s.ccr s.b) ∧
      AccFromAcc .deca .a s (decremented s.ccr s.a) ∧ AccFromAcc .decb .b s (decremented s.ccr s.b) ∧
      AccFromAcc .coma .a s (complemented s.ccr s.a) ∧ AccFromAcc .comb .b s (complemented s.ccr s.b) ∧
      AccFromAcc .tsta .a s (s.a, { flags8 s.ccr s.a false with c := false }) ∧
      AccFromAcc .tstb .b s (s.b, { flags8 s.ccr s.b false with c := false })

/-! ### Logic, shifts, bits -/

/-- AND, ORA, EOR of an accumulator in every form: N and Z from the result, V cleared, C kept (R201 to R207). -/
def Obligations.LogicBytes : Prop :=
  ∀ (src : Src8) (s : State),
    AccFromOperand (formAnda src) .a src s (fun m => (s.a &&& m, flags8 s.ccr (s.a &&& m) false)) ∧
      AccFromOperand (formAndb src) .b src s (fun m => (s.b &&& m, flags8 s.ccr (s.b &&& m) false)) ∧
      AccFromOperand (formOraa src) .a src s (fun m => (s.a ||| m, flags8 s.ccr (s.a ||| m) false)) ∧
      AccFromOperand (formOrab src) .b src s (fun m => (s.b ||| m, flags8 s.ccr (s.b ||| m) false)) ∧
      AccFromOperand (formEora src) .a src s (fun m => (s.a ^^^ m, flags8 s.ccr (s.a ^^^ m) false)) ∧
      AccFromOperand (formEorb src) .b src s (fun m => (s.b ^^^ m, flags8 s.ccr (s.b ^^^ m) false))

/-- BITA, BITB, TIM and TST in every form: one read, no write; only flags change (R191, R208, R209, R233). -/
def Obligations.BitTests : Prop :=
  ∀ (src : Src8) (m : EaIX) (k : EaDX) (mask : Byte) (s : State),
    FlagsFromOperand (formBita src) src s (fun v => flags8 s.ccr (s.a &&& v) false) ∧
      FlagsFromOperand (formBitb src) src s (fun v => flags8 s.ccr (s.b &&& v) false) ∧
      FlagsFromOperand (formTim mask k) (.mem k.toEa) s (fun v => flags8 s.ccr (v &&& mask) false) ∧
      FlagsFromOperand (formTst m) (.mem m.toEa) s (fun v => { flags8 s.ccr v false with c := false })

/-- ASL, ASR, LSR, ROL, ROR of an accumulator, ASLD and LSRD (R200, R213, R214, R216, R217, R219, R220, R222, R223, R225,
R226, R228, R229). -/
def Obligations.RegisterShifts : Prop :=
  ∀ s : State,
    AccFromAcc .asla .a s (shiftLeft s.ccr s.a) ∧ AccFromAcc .aslb .b s (shiftLeft s.ccr s.b) ∧
      AccFromAcc .asra .a s (shiftRightSigned s.ccr s.a) ∧ AccFromAcc .asrb .b s (shiftRightSigned s.ccr s.b) ∧
      AccFromAcc .lsra .a s (shiftRight s.ccr s.a) ∧ AccFromAcc .lsrb .b s (shiftRight s.ccr s.b) ∧
      AccFromAcc .rola .a s (rotateLeft s.ccr s.a) ∧ AccFromAcc .rolb .b s (rotateLeft s.ccr s.b) ∧
      AccFromAcc .rora .a s (rotateRight s.ccr s.a) ∧ AccFromAcc .rorb .b s (rotateRight s.ccr s.b) ∧
      (let d := 256 * s.a.toNat + s.b.toNat
       exec .asld s = .next { s with
           a := BitVec.ofNat 8 (2 * d / 256), b := BitVec.ofNat 8 (2 * d)
           ccr := { flags16 s.ccr (BitVec.ofNat 16 (2 * d))
             (xor (decide (32768 ≤ 2 * d % 65536)) (decide (32768 ≤ d))) with c := decide (32768 ≤ d) }
           pc := s.pc + 1 } ∧
         exec .lsrd s = .next { s with
           a := BitVec.ofNat 8 (d / 2 / 256), b := BitVec.ofNat 8 (d / 2)
           ccr := { s.ccr with
             n := false, z := decide (d / 2 = 0), v := decide (d % 2 = 1), c := decide (d % 2 = 1) }
           pc := s.pc + 1 })

/-- The instructions that modify a byte of memory, in every form: NEG, INC, DEC, COM, ASL, ASR, LSR, ROL, ROR, AIM, OIM, EIM.
Each reads the byte once and writes its result to the same address once; no other stored byte changes (R73, R174, R177,
R180, R200, R201, R212 to R233). -/
def Obligations.ReadModifyWrite : Prop :=
  ∀ (m : EaIX) (k : EaDX) (mask : Byte) (s : State),
    let addr := m.toEa.addr s
    let masked := k.toEa.addr s
    ByteModified (formNeg m) addr s (negated s.ccr) ∧ ByteModified (formInc m) addr s (incremented s.ccr) ∧
      ByteModified (formDec m) addr s (decremented s.ccr) ∧ ByteModified (formCom m) addr s (complemented s.ccr) ∧
      ByteModified (formAsl m) addr s (shiftLeft s.ccr) ∧ ByteModified (formAsr m) addr s (shiftRightSigned s.ccr) ∧
      ByteModified (formLsr m) addr s (shiftRight s.ccr) ∧ ByteModified (formRol m) addr s (rotateLeft s.ccr) ∧
      ByteModified (formRor m) addr s (rotateRight s.ccr) ∧
      ByteModified (formAim mask k) masked s (fun v => (v &&& mask, flags8 s.ccr (v &&& mask) false)) ∧
      ByteModified (formOim mask k) masked s (fun v => (v ||| mask, flags8 s.ccr (v ||| mask) false)) ∧
      ByteModified (formEim mask k) masked s (fun v => (v ^^^ mask, flags8 s.ccr (v ^^^ mask) false))

/-! ### Control transfer -/

/-- The sixteen branches: pc is opcode address + 2 + the signed displacement if the test holds, else the address after the
instruction; nothing else changes (R240 to R257). -/
def Obligations.Branches : Prop :=
  ∀ (rr : Byte) (s : State),
    let go (taken : Prop) [Decidable taken] : Result :=
      .next { s with pc := if taken then BitVec.ofInt 16 (s.pc.toNat + 2 + rr.toInt) else s.pc + 2 }
    let f := s.ccr
    exec (.bra rr) s = go True ∧ exec (.brn rr) s = go False ∧
      exec (.bhi rr) s = go (f.c = false ∧ f.z = false) ∧ exec (.bls rr) s = go (f.c = true ∨ f.z = true) ∧
      exec (.bcc rr) s = go (f.c = false) ∧ exec (.bcs rr) s = go (f.c = true) ∧
      exec (.bne rr) s = go (f.z = false) ∧ exec (.beq rr) s = go (f.z = true) ∧
      exec (.bvc rr) s = go (f.v = false) ∧ exec (.bvs rr) s = go (f.v = true) ∧
      exec (.bpl rr) s = go (f.n = false) ∧ exec (.bmi rr) s = go (f.n = true) ∧
      exec (.bge rr) s = go (f.n = f.v) ∧ exec (.blt rr) s = go (f.n ≠ f.v) ∧
      exec (.bgt rr) s = go (f.z = false ∧ f.n = f.v) ∧ exec (.ble rr) s = go (f.z = true ∨ f.n ≠ f.v)

/-- After a compare of A with a byte operand, in every form, the branches decide the signed and unsigned orders (R185,
R241). -/
def Obligations.CompareThenBranch : Prop :=
  ∀ (src : Src8) (s t : State), exec (formCmpa src) s = .next t →
    let m := (operand8 src s).1
    (Cond.hi.holds t.ccr = decide (m.toNat < s.a.toNat) ∧ Cond.ls.holds t.ccr = decide (s.a.toNat ≤ m.toNat) ∧
      Cond.cc.holds t.ccr = decide (m.toNat ≤ s.a.toNat) ∧ Cond.cs.holds t.ccr = decide (s.a.toNat < m.toNat) ∧
      Cond.ne.holds t.ccr = decide (s.a ≠ m) ∧ Cond.eq.holds t.ccr = decide (s.a = m) ∧
      Cond.ge.holds t.ccr = decide (m.toInt ≤ s.a.toInt) ∧ Cond.lt.holds t.ccr = decide (s.a.toInt < m.toInt) ∧
      Cond.gt.holds t.ccr = decide (m.toInt < s.a.toInt) ∧ Cond.le.holds t.ccr = decide (s.a.toInt ≤ m.toInt))

/-- JMP goes to the effective address itself; BSR and JSR push the address after the instruction, high byte at SP - 1 and low
byte at SP, and go to the target, formed before the push; RTS goes to the word at SP + 1; no flag changes (R258 to R261). -/
def Obligations.JumpsAndCalls : Prop :=
  ∀ (rr : Byte) (m : Ea) (j : EaIX) (s : State),
    exec (formJmp j) s = .next { s with pc := j.toEa.addr s } ∧
      (let ret := s.pc + 2
       let t := memWrite (s.sp - 1) (BitVec.ofNat 8 (ret.toNat / 256)) (memWrite s.sp (BitVec.ofNat 8 ret.toNat) s)
       exec (.bsr rr) s =
           .next { writesOf s t with sp := s.sp - 2, pc := BitVec.ofInt 16 (s.pc.toNat + 2 + rr.toInt) } ∧
         WordStored (s.sp - 1) ret s t) ∧
      (let ret := pcAfter (formJsr m) s
       let t := memWrite (s.sp - 1) (BitVec.ofNat 8 (ret.toNat / 256)) (memWrite s.sp (BitVec.ofNat 8 ret.toNat) s)
       exec (formJsr m) s = .next { writesOf s t with sp := s.sp - 2, pc := m.addr s } ∧
         WordStored (s.sp - 1) ret s t) ∧
      (let w := memRead16 (s.sp + 1) s
       exec .rts s = .next { readsOf s w.2 with sp := s.sp + 2, pc := w.1 })

/-- With the stack bytes in RAM, a pull undoes a push and a return undoes a call: PULA after PSHA, PULB after PSHB and PULX
after PSHX give the register its value back, RTS after BSR or JSR comes back to the instruction after the call, and SP returns
(R75, R140, R258, R260, R261). -/
def Obligations.PullsUndoPushes : Prop :=
  ∀ s t : State, s.mem.wf = true → region s.sp = .ram →
    (exec .psha s = .next t → exec .pula t = .next { t with a := s.a, sp := s.sp, pc := s.pc + 2 }) ∧
    (exec .pshb s = .next t → exec .pulb t = .next { t with b := s.b, sp := s.sp, pc := s.pc + 2 }) ∧
    (region (s.sp - 1) = .ram →
      (exec .pshx s = .next t → exec .pulx t = .next { t with x := s.x, sp := s.sp, pc := s.pc + 2 }) ∧
      (∀ m, exec (formJsr m) s = .next t → exec .rts t = .next { t with pc := pcAfter (formJsr m) s, sp := s.sp }) ∧
      ∀ rr, exec (.bsr rr) s = .next t → exec .rts t = .next { t with pc := s.pc + 2, sp := s.sp })

/-! ### Flags, system, exceptions -/

/-- NOP moves pc only; CLC, SEC, CLV, SEV, CLI, SEI write their one flag; TAP takes the six flags from A; TPA reads them with
bits 7 and 6 as 1 (R29, R270 to R278). -/
def Obligations.FlagInstructions : Prop :=
  ∀ s : State,
    exec .nop s = .next { s with pc := s.pc + 1 } ∧
      exec .clc s = .next { s with ccr := { s.ccr with c := false }, pc := s.pc + 1 } ∧
      exec .sec s = .next { s with ccr := { s.ccr with c := true }, pc := s.pc + 1 } ∧
      exec .clv s = .next { s with ccr := { s.ccr with v := false }, pc := s.pc + 1 } ∧
      exec .sev s = .next { s with ccr := { s.ccr with v := true }, pc := s.pc + 1 } ∧
      exec .cli s = .next { s with ccr := { s.ccr with i := false }, pc := s.pc + 1 } ∧
      exec .sei s = .next { s with ccr := { s.ccr with i := true }, pc := s.pc + 1 } ∧
      exec .tpa s = .next { s with a := ccrByte s.ccr, pc := s.pc + 1 } ∧
      ∃ f : Ccr, exec .tap s = .next { s with ccr := f, pc := s.pc + 1 } ∧
        (ccrByte f).toNat = 192 + s.a.toNat % 64

/-- The seven-byte frame: pc, X, A, B, CCR, written in this order from SP downwards, the low byte of a word before its high
byte; SP is lower by seven; nothing else changes. In RAM the seven bytes are read back from where they were pushed (R310). -/
def Obligations.InterruptFrame : Prop :=
  ∀ s : State,
    let lowHalf (w : Word) : Byte := BitVec.ofNat 8 w.toNat
    let highHalf (w : Word) : Byte := BitVec.ofNat 8 (w.toNat / 256)
    let t1 := memWrite (s.sp - 1) (highHalf s.pc) (memWrite s.sp (lowHalf s.pc) s)
    let t2 := memWrite (s.sp - 3) (highHalf s.x) (memWrite (s.sp - 2) (lowHalf s.x) t1)
    let t3 := memWrite (s.sp - 6) (ccrByte s.ccr) (memWrite (s.sp - 5) s.b (memWrite (s.sp - 4) s.a t2))
    pushFrame s = { writesOf s t3 with sp := s.sp - 7 } ∧ FrameStored s.pc s (pushFrame s)

/-- SWI pushes the frame with the address after SWI and the old I, sets I and goes to the address at $FFFA; it is not
maskable. WAI pushes the same frame and waits; SLP waits and pushes nothing (R279, R281, R282, R310). -/
def Obligations.SoftwareInterruptAndWaits : Prop :=
  ∀ s : State,
    let t := pushFrame { s with pc := s.pc + 1 }
    FrameStored (s.pc + 1) s t ∧
      exec .swi s = .next { writesOf s t with
        sp := s.sp - 7, ccr := { s.ccr with i := true }, pc := s.mem.read 0xFFFA ++ s.mem.read 0xFFFB } ∧
      exec .wai s = .next { writesOf s t with sp := s.sp - 7, pc := s.pc + 1, waitState := .wai } ∧
      exec .slp s = .next { s with pc := s.pc + 1, waitState := .slp }

/-- RTI reads seven bytes from SP + 1 on and restores from them the flags, B, A, X and pc, in this order; SP goes up by
seven (R280). -/
def Obligations.ReturnFromInterrupt : Prop :=
  ∀ s : State,
    let m := readBytes 7 (s.sp + 1) s
    ∃ (f b a xh xl ph pl : Byte) (cc : Ccr), m.1 = [f, b, a, xh, xl, ph, pl] ∧
      (ccrByte cc).toNat = 192 + f.toNat % 64 ∧
      exec .rti s = .next { readsOf s m.2 with
        ccr := cc, b := b, a := a, x := xh ++ xl, pc := ph ++ pl, sp := s.sp + 7 }

/-- RTI undoes an interrupt: after SWI with the frame in RAM, RTI restores A, B, X, SP and all six flags and goes to the
instruction after SWI (R279, R280, R310). -/
def Obligations.ReturnUndoesInterrupt : Prop :=
  ∀ s t : State, s.mem.wf = true → FrameInRam s.sp → exec .swi s = .next t →
    exec .rti t = .next { s with mem := t.mem, pc := s.pc + 1 }

/-- An illegal opcode sets the crashed flag, leaves pc at its own address and changes nothing else (R283, R301); from then on
every step and every port but `reset` leave the flag set, and a step changes nothing at all (R313, R349, R350); under any
parameters. -/
def Obligations.CrashStopsTheCore : Prop :=
  (∀ (op : Byte) (s : State), exec (.illegal op) s = .next { s with crashed := true }) ∧
    (∀ (p : Params) (s : State), s.crashed = true → stepWith p s = .next s) ∧
    ∀ (p : Params) (call : PortCall) (s t : State) (r : PortResult), s.crashed = true → (∀ k, call ≠ .reset k) →
      callPort p call s = .next (r, t) → t.crashed = true

/-! ### The step -/

/-- The fetch reads, by ordinary reads at ascending addresses from pc, exactly the bytes of the instruction it answers: under any
table the opcode byte and then its operand bytes, none for a byte that the table calls illegal; under the default table the
encoding of a well-formed instruction (R101, R102). -/
def Obligations.FetchReadsTheEncoding : Prop :=
  (∀ (t : IsaTable) (s : State), t.Valid →
    let f := fetch t s
    let bytes := f.op :: f.instr.operandBytes
    readBytes bytes.length s.pc s = (bytes, f.after) ∧
      ((t f.op).isIllegal = true ↔ f.instr = .illegal f.op)) ∧
    ∀ s : State,
      let f := fetch opcodeEntry s
      f.instr.wellFormed = true ∧ encode f.instr = f.op :: f.instr.operandBytes

/-- `next` runs the decoded instruction: if the bytes stored at pc decode, under the table of `p`, to `i`, in a core that is
neither crashed nor waiting and dispatches nothing, `next` is the meaning of `i` and then the tick by the cost of its opcode. -/
def Sys2Proof.Claims.RunsDecoded (p : Params) (next : State → Result) : Prop :=
  ∀ (s : State) (i : Instr) (rest : List Byte), s.crashed = false → s.waitState = .run →
    (s.pendingVector = none ∨ s.ccr.i = true) →
    decodeWith p.isaTable [s.mem.read s.pc.toNat, s.mem.read (s.pc + 1).toNat, s.mem.read (s.pc + 2).toNat] =
      .ok (i, rest) →
    (∀ k < (encode i).length, region (s.pc + BitVec.ofNat 16 k) = .ram ∨ region (s.pc + BitVec.ofNat 16 k) = .rom) →
      ∃ t, exec i s = .next t ∧
        next s = .next { t with timer := t.timer.tick (p.cost (s.mem.read s.pc.toNat)) }

/-- A step runs the decoded instruction, with the tick by the cost of its opcode, under the default parameters and under any
whose table is one of rows (R102, R313); what the default table decodes, which is what `decode` reads, is well formed. -/
def Obligations.StepRunsDecodedInstruction : Prop :=
  RunsDecoded Params.default step ∧ (∀ p : Params, p.isaTable.Valid → RunsDecoded p (stepWith p)) ∧
    ∀ (bytes rest : List Byte) (i : Instr), decodeWith Params.default.isaTable bytes = .ok (i, rest) →
      decode bytes = .ok (i, rest) ∧ i.wellFormed = true

/-- The default cycles of every instruction, form by form, and of a dispatch, of leaving WAI and of an idle step: the defaults
of the spec, from its general knowledge and unaudited (R103, R112; log 13). All are at least 1 and at most 12; an illegal opcode
costs nothing under any parameters. The other statements hold under any costs. -/
def Obligations.CycleCosts : Prop :=
  ∀ (ii dd ff rr : Byte) (hhll jjkk : Word),
    let cost (i : Instr) : Nat := Params.default.cost i.opcode
    (∀ form ∈
        [formSuba, formCmpa, formSbca, formAnda, formBita, formLdaa, formEora, formAdca, formOraa, formAdda,
          formSubb, formCmpb, formSbcb, formAndb, formBitb, formLdab, formEorb, formAdcb, formOrab, formAddb],
      cost (form (.imm ii)) = 2 ∧ cost (form (.mem (.dir dd))) = 3 ∧ cost (form (.mem (.idx ff))) = 4 ∧
        cost (form (.mem (.ext hhll))) = 4) ∧
    (∀ form ∈ [formSubd, formAddd, formCpx, formLdd, formLdx, formLds],
      cost (form (.imm jjkk)) = 3 ∧ cost (form (.mem (.dir dd))) = 4 ∧ cost (form (.mem (.idx ff))) = 5 ∧
        cost (form (.mem (.ext hhll))) = 5) ∧
    (∀ form ∈ [formStaa, formStab],
      cost (form (.dir dd)) = 3 ∧ cost (form (.idx ff)) = 4 ∧ cost (form (.ext hhll)) = 4) ∧
    (∀ form ∈ [formStd, formStx, formSts],
      cost (form (.dir dd)) = 4 ∧ cost (form (.idx ff)) = 5 ∧ cost (form (.ext hhll)) = 5) ∧
    (cost (formJsr (.dir dd)) = 5 ∧ cost (formJsr (.idx ff)) = 5 ∧ cost (formJsr (.ext hhll)) = 6) ∧
    (∀ m : EaIX, cost (formJmp m) = 3 ∧ cost (formTst m) = 4 ∧ cost (formClr m) = 5 ∧
      ∀ form ∈ [formNeg, formCom, formLsr, formRor, formAsr, formAsl, formRol, formDec, formInc], cost (form m) = 6) ∧
    (∀ form ∈ [formAim, formOim, formEim], cost (form ii (.dir dd)) = 6 ∧ cost (form ii (.idx ff)) = 7) ∧
    (cost (formTim ii (.dir dd)) = 4 ∧ cost (formTim ii (.idx ff)) = 5) ∧
    (∀ branch ∈ [Instr.bra, .brn, .bhi, .bls, .bcc, .bcs, .bne, .beq, .bvc, .bvs, .bpl, .bmi, .bge, .blt, .bgt, .ble],
      cost (branch rr) = 3) ∧
    cost (.bsr rr) = 5 ∧
    (∀ i ∈
        ([
          .nop, .lsrd, .asld, .tap, .tpa, .inx, .dex, .clv, .sev, .clc, .sec, .cli, .sei, .sba, .cba, .tab, .tba,
          .aba, .tsx, .ins, .des, .txs, .abx, .nega, .coma, .lsra, .rora, .asra, .asla, .rola, .deca, .inca, .tsta,
          .clra, .negb, .comb, .lsrb, .rorb, .asrb, .aslb, .rolb, .decb, .incb, .tstb, .clrb] : List Instr),
      cost i = 1) ∧
    (cost .xgdx = 2 ∧ cost .daa = 2 ∧ cost .pula = 3 ∧ cost .pulb = 3 ∧ cost .psha = 4 ∧ cost .pshb = 4 ∧
      cost .pulx = 4 ∧ cost .slp = 4 ∧ cost .pshx = 5 ∧ cost .rts = 5 ∧ cost .mul = 7 ∧ cost .wai = 9 ∧
      cost .rti = 10 ∧ cost .swi = 12) ∧
    (Params.default.dispatchCycles = 12 ∧ Params.default.waiExitCycles = 4 ∧ Params.default.idleCycles = 1) ∧
    Params.default.Valid ∧ Params.default.CostsAtMost 12 ∧
    ∀ (p : Params) (op : Byte), (p.isaTable op).isIllegal = true → p.cost op = 0

/-- Every step answers a next state, so nothing stops the machine but the crashed flag. Under any valid costs that are at most
`m`, 12 by default, it consumes at most `m` cycles, and none only if the core is crashed after it; the counter advances by
exactly the cycles consumed; an instruction consumes its cost (R76, R112, R113, R302, R313, R347). -/
def Obligations.StepConsumesItsCycles : Prop :=
  ∀ (p : Params) (s : State), ∃ (t : State) (n : Nat), stepCounted p s = .next (t, n) ∧ stepWith p s = .next t ∧
    (∀ m, p.CostsAtMost m → n ≤ m) ∧ (p.Valid → (n = 0 ↔ t.crashed = true)) ∧
    t.timer.counter = s.timer.counter + BitVec.ofNat 16 n ∧
    (s.crashed = false → s.waitState = .run → (s.pendingVector = none ∨ s.ccr.i = true) →
      n = p.cost (fetch p.isaTable s).op)

/-- A step under any parameters changes neither the phase counter nor the pause bits nor the cumulative count, which `run`
keeps, and never uncrashes the core (R40, R41, R42, R44, R347). -/
def Obligations.StepLeavesHostState : Prop :=
  ∀ (p : Params) (s t : State), stepWith p s = .next t →
    t.phase = s.phase ∧ t.pauseReq = s.pauseReq ∧ t.paused = s.paused ∧ t.cyclesTotal = s.cyclesTotal ∧
      (s.crashed = true → t.crashed = true)

/-- Only CLI, TAP and RTI let interrupts in: a step from I = 1 to I = 0, under any parameters, executed one of them (R27, R307,
R389). -/
def Obligations.OnlyThreeInstructionsUnmask : Prop :=
  ∀ (p : Params) (s t : State), stepWith p s = .next t → s.ccr.i = true → t.ccr.i = false →
    (fetch p.isaTable s).instr = .cli ∨ (fetch p.isaTable s).instr = .tap ∨ (fetch p.isaTable s).instr = .rti

/-- The request lines and the vector they select: the timer asks exactly when OCF and EOCI are 1; the serial peripheral asks
exactly when RIE is 1 with RDRF or ORFE, or TIE and TDRE are 1; all its conditions share one vector, and the timer goes first
(R304, R305, R306). -/
def Obligations.RequestLines : Prop :=
  ∀ s : State,
    (s.timer.irq = true ↔ s.timer.ocf = true ∧ s.timer.tcsrLo.toNat / 8 % 2 = 1) ∧
      (s.serial.irq = true ↔
        (s.serial.trcsrLo.toNat / 16 % 2 = 1 ∧ (s.serial.rdrf = true ∨ s.serial.orfe = true)) ∨
          (s.serial.trcsrLo.toNat / 4 % 2 = 1 ∧ s.serial.tdre = true)) ∧
      s.pendingVector =
        if s.timer.irq = true then some 0xFFF4 else if s.serial.irq = true then some 0xFFF0 else none

/-- At a boundary of a core that runs or sleeps, with I = 0, a pending source is dispatched and no instruction is fetched: the
timer's request goes to the address at $FFF4, else the serial request to the address at $FFF0; the frame holds pc and the
old flags, I is set, `DISPATCH_CYCLES` pass, whatever they are, and the source's flag is not cleared by the dispatch itself
(R304, R305, R308, R311, R312). -/
def Obligations.DispatchByPriority : Prop :=
  ∀ (p : Params) (s : State), s.crashed = false → s.waitState ≠ .wai → s.ccr.i = false →
    let timerAsks := s.timer.ocf = true ∧ s.timer.tcsrLo.toNat / 8 % 2 = 1
    let serialAsks := (s.serial.trcsrLo.toNat / 16 % 2 = 1 ∧ (s.serial.rdrf = true ∨ s.serial.orfe = true)) ∨
      (s.serial.trcsrLo.toNat / 4 % 2 = 1 ∧ s.serial.tdre = true)
    let entered (hi lo : Nat) : State := { writesOf s (pushFrame s) with
      sp := s.sp - 7, ccr := { s.ccr with i := true }, pc := s.mem.read hi ++ s.mem.read lo, waitState := .run
      timer := (pushFrame s).timer.tick p.dispatchCycles }
    (timerAsks → stepWith p s = .next (entered 0xFFF4 0xFFF5)) ∧
      (¬ timerAsks → serialAsks → stepWith p s = .next (entered 0xFFF0 0xFFF1)) ∧
      (¬ timerAsks → ¬ serialAsks → s.pendingVector = none)

/-- The wait states: WAI ends at a pending source with I = 0, by way of the vector, with no push, in `WAI_EXIT_CYCLES`; SLP
ends at a pending source whatever I is, and with I = 1 the same step runs on as if not asleep; until then a step is `IDLE_CYCLES`
(R317, R318). -/
def Obligations.WaitStates : Prop :=
  ∀ (p : Params) (s : State), s.crashed = false →
    (s.waitState = .wai → s.pendingVector = none ∨ s.ccr.i = true →
      stepWith p s = .next { s with timer := s.timer.tick p.idleCycles }) ∧
    (s.waitState = .wai → s.ccr.i = false → ∀ v, s.pendingVector = some v →
      stepWith p s = .next { s with
        ccr := { s.ccr with i := true }, waitState := .run, timer := s.timer.tick p.waiExitCycles
        pc := s.mem.read v.toNat ++ s.mem.read (v.toNat + 1) }) ∧
    (s.waitState = .slp → s.pendingVector = none → stepWith p s = .next { s with timer := s.timer.tick p.idleCycles }) ∧
    (s.waitState = .slp → s.pendingVector ≠ none → stepWith p s = stepWith p { s with waitState := .run })

/-- WAI with I = 1 is stuck: from a core that has executed it, each step is one idle cycle, whatever is pending, the core does
not crash, and no port but `reset` ends it (R317, R350; R396, which the spec marks as derived from R317). -/
def Obligations.MaskedWaitIsStuck : Prop :=
  (∀ s : State, s.crashed = false → s.ccr.i = true → ∃ t, exec .wai s = .next t ∧ t.Stuck) ∧
    ∀ (p : Params) (s : State), s.Stuck →
      (stepWith p s = .next { s with timer := s.timer.tick p.idleCycles } ∧
          ({ s with timer := s.timer.tick p.idleCycles } : State).Stuck) ∧
        ∀ (call : PortCall) (t : State) (r : PortResult), (∀ k, call ≠ .reset k) → callPort p call s = .next (r, t) →
          t.Stuck

/-! ### The timer -/

/-- `tick(n)` adds n to the counter modulo 2^16 and sets OCF exactly if one of the n new counter values equals the compare
register; nothing else of the timer changes (R320, R321). -/
def Obligations.TickComparesEachCycle : Prop :=
  ∀ (n : Nat) (t : Timer),
    t.tick n = { t with counter := t.counter + BitVec.ofNat 16 n, ocf := (t.tick n).ocf } ∧
      ((t.tick n).ocf = true ↔ t.ocf = true ∨ ∃ k, 1 ≤ k ∧ k ≤ n ∧ t.counter + BitVec.ofNat 16 k = t.ocr)

/-- With the compare register set to counter + K, OCF stays 0 for K - 1 cycles and sets at the K-th; K = 2^16 stands for a
register equal to the counter (R321, R328). -/
def Obligations.CompareAfterKCycles : Prop :=
  ∀ (k n : Nat) (t : Timer), 1 ≤ k → k ≤ 65536 → t.ocf = false → t.ocr = t.counter + BitVec.ofNat 16 k →
    ((t.tick n).ocf = true ↔ k ≤ n)

/-! ### The serial peripheral and the ports -/

/-- `feed_inbound` with no byte unread takes the byte and sets RDRF; with one unread it keeps that byte, sets ORFE and reports
the overrun; either way a read of RDR then gives the kept byte and clears both flags (R331, R332, R334, R343). -/
def Obligations.InboundByte : Prop :=
  ∀ (v : Byte) (s : State),
    (s.serial.rdrf = false →
      feedInbound v s = (.accepted, { s with serial := { s.serial with rdr := v, rdrf := true } })) ∧
    (s.serial.rdrf = true → feedInbound v s = (.overrun, { s with serial := { s.serial with orfe := true } })) ∧
    isReceiveBusy (feedInbound v s).2 = true ∧
    (let m := memRead 0x12#16 (feedInbound v s).2
     m.1 = (if s.serial.rdrf then s.serial.rdr else v) ∧ isReceiveBusy m.2 = false ∧ m.2.serial.orfe = false)

/-- Bytes written to TDR one after another. -/
def Sys2Proof.Claims.transmitAll : List Byte → State → State
  | [], s => s
  | v :: rest, s => Sys2Proof.Claims.transmitAll rest (memWrite 0x13#16 v s)

/-- Draining `n` times. -/
def Sys2Proof.Claims.drainTimes : Nat → State → List (Option Byte) × State
  | 0, s => ([], s)
  | n + 1, s =>
    let d := drainOutbound s
    let rest := Sys2Proof.Claims.drainTimes n d.2
    (d.1 :: rest.1, rest.2)

/-- Outbound bytes leave in the order of the TDR writes: written to an empty queue that has room for them, they are drained
in that order, then `none`; `sat` is not touched, and TDRE stays 0 (R336, R338, R353). -/
def Obligations.OutboundOrder : Prop :=
  ∀ (bytes : List Byte) (s : State), s.serial.txq = [] → (∀ k < bytes.length, Config.txqHasRoom k = true) →
    let t := transmitAll bytes s
    (drainTimes (bytes.length + 1) t).1 = bytes.map some ++ [none] ∧
      (drainTimes (bytes.length + 1) t).2.serial.txq = [] ∧
      (drainTimes (bytes.length + 1) t).2.serial.sat = s.serial.sat ∧
      (bytes ≠ [] → (drainTimes (bytes.length + 1) t).2.serial.tdre = false)

/-- `run` with no pause request, under any valid costs that are at most `m`, 12 by default: it always returns; a running core
consumes at least the budget and less than `m` cycles more, unless it crashes; a budget of 0 or less, or a crashed core, changes
nothing; `cycles_total` and the counter grow by what is returned (R347, R399). -/
def Obligations.RunMeetsItsBudget : Prop :=
  ∀ (p : Params) (m : Nat) (budget : Int) (s : State), p.Valid → p.CostsAtMost m → s.pauseReq = false →
    s.paused = false →
    ∃ (r : Nat) (t : State), run p budget s = .next (r, t) ∧ t.cyclesTotal = s.cyclesTotal + r ∧
      (t.crashed = false → budget ≤ r) ∧ (0 < budget → (r : Int) < budget + m) ∧
      (budget ≤ 0 ∨ s.crashed = true → r = 0 ∧ t = s) ∧
      t.timer.counter = s.timer.counter + BitVec.ofNat 16 r

/-- While paused, or with a pause request pending, `run` returns 0 and changes nothing but `paused`, which becomes 1; a further
`run` changes nothing at all; `request_resume` clears both bits (R347, R348). While paused, and inside a run, the byte ports are
refused (R346; U23 of 93_implementation_defined.md), which while paused is the model's choice, since R331 and row 5 of R351 say
what such calls do (log 15); and while paused, whatever the host may do, nothing but a reset, which leaves both pause bits
(R385), or `request_resume` changes more than the request bit. -/
def Obligations.PauseFreezesTheBlock : Prop :=
  (∀ (p : Params) (budget : Int) (s : State),
    (s.paused = true ∨ s.pauseReq = true → run p budget s = .next (0, { s with paused := true })) ∧
      run p budget (requestPause s) = .next (0, { s with pauseReq := true, paused := true }) ∧
      requestResume s = { s with pauseReq := false, paused := false } ∧
      isPaused (requestPause s) = isPaused s) ∧
    (∀ (p : Params) (b : Block) (v : Byte) (space : Bool), b.batch ≠ none ∨ b.state.paused = true →
      ∀ call ∈ [PortCall.feedInbound v, .drainOutbound, .reportTransmitCapacity space],
        hostCall p call b = .refused .portNotAdmitted) ∧
    ∀ (p : Params) (s : State) (b : Block), s.paused = true → Transition p { state := s, batch := none } b →
      b.batch = none ∧
        ((∃ kind, b.state = resetPort kind s) ∨ b.state = requestResume s ∨ b.state = s ∨ b.state = requestPause s)

/-- The remaining ports: `report_transmit_capacity` sets TDRE to its argument and nothing else; `request_pause` sets its bit;
`drain_outbound` removes and returns the oldest byte of the queue, or returns none if it is empty, and changes nothing else; the
three queries return their bit and change nothing (R332, R337, R338, R345, R348, R349). -/
def Obligations.PlainPorts : Prop :=
  ∀ (p : Params) (space : Bool) (s : State),
    callPort p (.reportTransmitCapacity space) s = .next (.none, { s with serial := { s.serial with tdre := space } }) ∧
      callPort p .isReceiveBusy s = .next (.bool s.serial.rdrf, s) ∧
      callPort p .isPaused s = .next (.bool s.paused, s) ∧ callPort p .isCrashed s = .next (.bool s.crashed, s) ∧
      callPort p .requestPause s = .next (.none, { s with pauseReq := true }) ∧
      (s.serial.txq = [] → callPort p .drainOutbound s = .next (.byte none, s)) ∧
      ∀ v rest, s.serial.txq = v :: rest →
        callPort p .drainOutbound s = .next (.byte (some v), { s with serial := { s.serial with txq := rest } })

/-! ### Reset -/

/-- Both resets set I, clear the crashed flag and the wait state, take pc from $FFFE, put A, B, X, SP and the flags H, N, Z, V,
C each at an arbitrary value of its own, and leave the image, the pause bits, `cycles_total` and the PORT events as they were.
The cold one also makes every RAM byte $00, puts both peripherals at their defaults and `phase` at an arbitrary value; the warm
one leaves memory, both peripherals, the queue, `sat` and `phase` exactly as they were (R381, R382). The arbitrary values are the
model's free ones, in the model's order (log 6, log 19). -/
def Obligations.Resets : Prop :=
  ∀ s : State,
    let common (t : State) (d : Nat) : Prop :=
      t.ccr.i = true ∧ t.crashed = false ∧ t.waitState = .run ∧
        t.pc.toNat = 256 * (s.mem.read 0xFFFE).toNat + (s.mem.read 0xFFFF).toNat ∧
        t.pauseReq = s.pauseReq ∧ t.paused = s.paused ∧ t.cyclesTotal = s.cyclesTotal ∧ t.portEvents = s.portEvents ∧
        t.a = Config.freeByte d ∧ t.b = Config.freeByte (d + 1) ∧ t.x = Config.freeWord (d + 2) ∧
        t.sp = Config.freeWord (d + 3) ∧ t.ccr.h = Config.freeBit (d + 4) ∧ t.ccr.n = Config.freeBit (d + 5) ∧
        t.ccr.z = Config.freeBit (d + 6) ∧ t.ccr.v = Config.freeBit (d + 7) ∧ t.ccr.c = Config.freeBit (d + 8)
    let cold := resetPort .cold s
    let warm := resetPort .warm s
    common cold (s.draws + 1) ∧ common warm s.draws ∧ cold.phase = Config.freePhase s.draws ∧
      (∀ a : Nat, 0x80 ≤ a → a ≤ 0xFF → cold.mem.read a = 0) ∧
      (∀ a : Nat, 0xF000 ≤ a → a ≤ 0xFFFF → cold.mem.read a = s.mem.read a) ∧
      cold.timer =
        { counter := 0, ocr := 0xFFFF, ocf := false, tcsrLo := 0, ocfArmed := false, tof := false, tofArmed := false } ∧
      cold.serial =
        { rdrf := false, orfe := false, tdre := true, trcsrLo := 0, rdr := 0, tdr := 0, txq := [], sat := false } ∧
      warm.mem = s.mem ∧ warm.timer = s.timer ∧ warm.serial = s.serial ∧ warm.phase = s.phase

/-! ### The whole machine -/

/-- In every state a block can come to, by any turns of `run` and any port calls the host may make, the image holds exactly
the bytes it was constructed with (R65, R381). -/
def Obligations.ImageIsImmutable : Prop :=
  ∀ (p : Params) (image : List Byte) (b : Block), Reachable p image b →
    ∀ k < 4096, b.state.mem.read (0xF000 + k) = image.getD k 0

/-- Every step keeps the invariant, under the default parameters and under any: the canonical form of the memory, the bound of
the queue, the relation of the clear's arming to OCF and of ORFE to RDRF, no wait state in a crashed core, no pause without a
request, and PORT events at unowned addresses only (R50, R67, R301, R325, R331, R342, R348). -/
def Obligations.InvariantKeptByStep : Prop :=
  ∀ s t : State, s.Inv →
    (step s = .next t → t.Inv) ∧ ∀ p : Params, stepWith p s = .next t → t.Inv

/-- Every port call keeps the invariant as well, under any parameters (R345). -/
def Obligations.InvariantKeptByPorts : Prop :=
  ∀ (p : Params) (call : PortCall) (s t : State) (r : PortResult), s.Inv → callPort p call s = .next (r, t) → t.Inv

/-- The invariant holds at the model's reset state and after the construction with any image that is not refused. The reset
state's registers and its blank image are the model's own choices (log 1 to 5); the invariant constrains none of them. -/
def Obligations.InvariantAtReset : Prop :=
  State.reset.Inv ∧
    ∀ (uses : List HandlerVector) (image : List Byte) (s : State), construct uses image = some s → s.Inv
end

