-- ==== Sys2Proof/Laws/PerInstr.lean ====
section
/-! SUPPORT. The lemmas made per instruction: the opcode byte settles how many operand bytes follow, and reading the
instruction's own operand bytes back gives the instruction (30_encoding.md R90, R91, R102). -/

namespace Sys2Proof.Laws

open Sys2Proof

/-- A word is its high byte and its low byte. -/
theorem word_of_bytes (w : Word) : w.extractLsb' 8 8 ++ w.extractLsb' 0 8 = w := by
  apply BitVec.eq_of_getLsbD_eq
  intro k hk
  rw [BitVec.getLsbD_append]
  split
  · simp [*]
  · have : k - 8 < 8 := by omega
    have : 8 + (k - 8) = k := by omega
    simp [*]

/-- A byte of R104 has the opcode map's illegal entry. -/
theorem opcodeEntry_of_illegal (op : Byte) (h : op ∈ illegalOpcodes) : opcodeEntry op = .ill := by
  simp only [illegalOpcodes, List.mem_cons, List.not_mem_nil, or_false] at h
  rcases h with rfl | rfl | rfl | rfl | rfl | rfl | rfl | rfl | rfl | rfl | rfl | rfl | rfl | rfl | rfl | rfl | rfl | rfl |
    rfl | rfl | rfl | rfl | rfl | rfl | rfl | rfl <;> rfl

/-- For a well-formed instruction, its opcode asks for its operand bytes, and it is the instruction of its own bytes. -/
def EncodeDecode.Statement (i : Instr) : Prop :=
  i.wellFormed = true →
    operandCount i.opcode = i.operandBytes.length ∧
      instrOf i.opcode (i.operandBytes.getD 0 0) (i.operandBytes.getD 1 0) = i

theorem EncodeDecode.illegal (op : Byte) : EncodeDecode.Statement (.illegal op) := by
  intro h
  have h : opcodeEntry op = .ill := opcodeEntry_of_illegal op (by simpa [Instr.wellFormed] using h)
  simp [operandCount, instrOf, OpcodeEntry.operandCount, OpcodeEntry.instr, Instr.opcode, Instr.operandBytes, h]

/-- An instruction without operands. -/
theorem EncodeDecode.of_inh (op : Byte) (i : Instr) (ho : i.opcode = op) (hb : i.operandBytes = [])
    (he : opcodeEntry op = .inh i) : EncodeDecode.Statement i := by
  intro _; subst ho; simp [operandCount, instrOf, OpcodeEntry.operandCount, OpcodeEntry.instr, hb, he]

/-- An instruction with one operand byte. -/
theorem EncodeDecode.of_byte (op : Byte) (mk : Byte → Instr) (v : Byte) (ho : (mk v).opcode = op)
    (hb : (mk v).operandBytes = [v]) (he : opcodeEntry op = .byte mk) : EncodeDecode.Statement (mk v) := by
  intro _; subst ho; simp [operandCount, instrOf, OpcodeEntry.operandCount, OpcodeEntry.instr, hb, he]

/-- An instruction with an operand word. -/
theorem EncodeDecode.of_word (op : Byte) (mk : Word → Instr) (v : Word) (ho : (mk v).opcode = op)
    (hb : (mk v).operandBytes = wordBytes v) (he : opcodeEntry op = .word mk) : EncodeDecode.Statement (mk v) := by
  intro _; subst ho; simp [operandCount, instrOf, OpcodeEntry.operandCount, OpcodeEntry.instr, hb, he, wordBytes, word_of_bytes]

/-- An instruction with two operand bytes. -/
theorem EncodeDecode.of_bytes2 (op : Byte) (mk : Byte → Byte → Instr) (v w : Byte) (ho : (mk v w).opcode = op)
    (hb : (mk v w).operandBytes = [v, w]) (he : opcodeEntry op = .bytes2 mk) : EncodeDecode.Statement (mk v w) := by
  intro _; subst ho; simp [operandCount, instrOf, OpcodeEntry.operandCount, OpcodeEntry.instr, hb, he]

theorem EncodeDecode.nop : EncodeDecode.Statement .nop :=
  EncodeDecode.of_inh 0x01 .nop rfl rfl rfl

theorem EncodeDecode.lsrd : EncodeDecode.Statement .lsrd :=
  EncodeDecode.of_inh 0x04 .lsrd rfl rfl rfl

theorem EncodeDecode.asld : EncodeDecode.Statement .asld :=
  EncodeDecode.of_inh 0x05 .asld rfl rfl rfl

theorem EncodeDecode.tap : EncodeDecode.Statement .tap :=
  EncodeDecode.of_inh 0x06 .tap rfl rfl rfl

theorem EncodeDecode.tpa : EncodeDecode.Statement .tpa :=
  EncodeDecode.of_inh 0x07 .tpa rfl rfl rfl

theorem EncodeDecode.inx : EncodeDecode.Statement .inx :=
  EncodeDecode.of_inh 0x08 .inx rfl rfl rfl

theorem EncodeDecode.dex : EncodeDecode.Statement .dex :=
  EncodeDecode.of_inh 0x09 .dex rfl rfl rfl

theorem EncodeDecode.clv : EncodeDecode.Statement .clv :=
  EncodeDecode.of_inh 0x0A .clv rfl rfl rfl

theorem EncodeDecode.sev : EncodeDecode.Statement .sev :=
  EncodeDecode.of_inh 0x0B .sev rfl rfl rfl

theorem EncodeDecode.clc : EncodeDecode.Statement .clc :=
  EncodeDecode.of_inh 0x0C .clc rfl rfl rfl

theorem EncodeDecode.sec : EncodeDecode.Statement .sec :=
  EncodeDecode.of_inh 0x0D .sec rfl rfl rfl

theorem EncodeDecode.cli : EncodeDecode.Statement .cli :=
  EncodeDecode.of_inh 0x0E .cli rfl rfl rfl

theorem EncodeDecode.sei : EncodeDecode.Statement .sei :=
  EncodeDecode.of_inh 0x0F .sei rfl rfl rfl

theorem EncodeDecode.sba : EncodeDecode.Statement .sba :=
  EncodeDecode.of_inh 0x10 .sba rfl rfl rfl

theorem EncodeDecode.cba : EncodeDecode.Statement .cba :=
  EncodeDecode.of_inh 0x11 .cba rfl rfl rfl

theorem EncodeDecode.tab : EncodeDecode.Statement .tab :=
  EncodeDecode.of_inh 0x16 .tab rfl rfl rfl

theorem EncodeDecode.tba : EncodeDecode.Statement .tba :=
  EncodeDecode.of_inh 0x17 .tba rfl rfl rfl

theorem EncodeDecode.xgdx : EncodeDecode.Statement .xgdx :=
  EncodeDecode.of_inh 0x18 .xgdx rfl rfl rfl

theorem EncodeDecode.daa : EncodeDecode.Statement .daa :=
  EncodeDecode.of_inh 0x19 .daa rfl rfl rfl

theorem EncodeDecode.slp : EncodeDecode.Statement .slp :=
  EncodeDecode.of_inh 0x1A .slp rfl rfl rfl

theorem EncodeDecode.aba : EncodeDecode.Statement .aba :=
  EncodeDecode.of_inh 0x1B .aba rfl rfl rfl

theorem EncodeDecode.bra (rr : Byte) : EncodeDecode.Statement (.bra rr) :=
  EncodeDecode.of_byte 0x20 .bra rr rfl rfl rfl

theorem EncodeDecode.brn (rr : Byte) : EncodeDecode.Statement (.brn rr) :=
  EncodeDecode.of_byte 0x21 .brn rr rfl rfl rfl

theorem EncodeDecode.bhi (rr : Byte) : EncodeDecode.Statement (.bhi rr) :=
  EncodeDecode.of_byte 0x22 .bhi rr rfl rfl rfl

theorem EncodeDecode.bls (rr : Byte) : EncodeDecode.Statement (.bls rr) :=
  EncodeDecode.of_byte 0x23 .bls rr rfl rfl rfl

theorem EncodeDecode.bcc (rr : Byte) : EncodeDecode.Statement (.bcc rr) :=
  EncodeDecode.of_byte 0x24 .bcc rr rfl rfl rfl

theorem EncodeDecode.bcs (rr : Byte) : EncodeDecode.Statement (.bcs rr) :=
  EncodeDecode.of_byte 0x25 .bcs rr rfl rfl rfl

theorem EncodeDecode.bne (rr : Byte) : EncodeDecode.Statement (.bne rr) :=
  EncodeDecode.of_byte 0x26 .bne rr rfl rfl rfl

theorem EncodeDecode.beq (rr : Byte) : EncodeDecode.Statement (.beq rr) :=
  EncodeDecode.of_byte 0x27 .beq rr rfl rfl rfl

theorem EncodeDecode.bvc (rr : Byte) : EncodeDecode.Statement (.bvc rr) :=
  EncodeDecode.of_byte 0x28 .bvc rr rfl rfl rfl

theorem EncodeDecode.bvs (rr : Byte) : EncodeDecode.Statement (.bvs rr) :=
  EncodeDecode.of_byte 0x29 .bvs rr rfl rfl rfl

theorem EncodeDecode.bpl (rr : Byte) : EncodeDecode.Statement (.bpl rr) :=
  EncodeDecode.of_byte 0x2A .bpl rr rfl rfl rfl

theorem EncodeDecode.bmi (rr : Byte) : EncodeDecode.Statement (.bmi rr) :=
  EncodeDecode.of_byte 0x2B .bmi rr rfl rfl rfl

theorem EncodeDecode.bge (rr : Byte) : EncodeDecode.Statement (.bge rr) :=
  EncodeDecode.of_byte 0x2C .bge rr rfl rfl rfl

theorem EncodeDecode.blt (rr : Byte) : EncodeDecode.Statement (.blt rr) :=
  EncodeDecode.of_byte 0x2D .blt rr rfl rfl rfl

theorem EncodeDecode.bgt (rr : Byte) : EncodeDecode.Statement (.bgt rr) :=
  EncodeDecode.of_byte 0x2E .bgt rr rfl rfl rfl

theorem EncodeDecode.ble (rr : Byte) : EncodeDecode.Statement (.ble rr) :=
  EncodeDecode.of_byte 0x2F .ble rr rfl rfl rfl

theorem EncodeDecode.tsx : EncodeDecode.Statement .tsx :=
  EncodeDecode.of_inh 0x30 .tsx rfl rfl rfl

theorem EncodeDecode.ins : EncodeDecode.Statement .ins :=
  EncodeDecode.of_inh 0x31 .ins rfl rfl rfl

theorem EncodeDecode.pula : EncodeDecode.Statement .pula :=
  EncodeDecode.of_inh 0x32 .pula rfl rfl rfl

theorem EncodeDecode.pulb : EncodeDecode.Statement .pulb :=
  EncodeDecode.of_inh 0x33 .pulb rfl rfl rfl

theorem EncodeDecode.des : EncodeDecode.Statement .des :=
  EncodeDecode.of_inh 0x34 .des rfl rfl rfl

theorem EncodeDecode.txs : EncodeDecode.Statement .txs :=
  EncodeDecode.of_inh 0x35 .txs rfl rfl rfl

theorem EncodeDecode.psha : EncodeDecode.Statement .psha :=
  EncodeDecode.of_inh 0x36 .psha rfl rfl rfl

theorem EncodeDecode.pshb : EncodeDecode.Statement .pshb :=
  EncodeDecode.of_inh 0x37 .pshb rfl rfl rfl

theorem EncodeDecode.pulx : EncodeDecode.Statement .pulx :=
  EncodeDecode.of_inh 0x38 .pulx rfl rfl rfl

theorem EncodeDecode.rts : EncodeDecode.Statement .rts :=
  EncodeDecode.of_inh 0x39 .rts rfl rfl rfl

theorem EncodeDecode.abx : EncodeDecode.Statement .abx :=
  EncodeDecode.of_inh 0x3A .abx rfl rfl rfl

theorem EncodeDecode.rti : EncodeDecode.Statement .rti :=
  EncodeDecode.of_inh 0x3B .rti rfl rfl rfl

theorem EncodeDecode.pshx : EncodeDecode.Statement .pshx :=
  EncodeDecode.of_inh 0x3C .pshx rfl rfl rfl

theorem EncodeDecode.mul : EncodeDecode.Statement .mul :=
  EncodeDecode.of_inh 0x3D .mul rfl rfl rfl

theorem EncodeDecode.wai : EncodeDecode.Statement .wai :=
  EncodeDecode.of_inh 0x3E .wai rfl rfl rfl

theorem EncodeDecode.swi : EncodeDecode.Statement .swi :=
  EncodeDecode.of_inh 0x3F .swi rfl rfl rfl

theorem EncodeDecode.nega : EncodeDecode.Statement .nega :=
  EncodeDecode.of_inh 0x40 .nega rfl rfl rfl

theorem EncodeDecode.coma : EncodeDecode.Statement .coma :=
  EncodeDecode.of_inh 0x43 .coma rfl rfl rfl

theorem EncodeDecode.lsra : EncodeDecode.Statement .lsra :=
  EncodeDecode.of_inh 0x44 .lsra rfl rfl rfl

theorem EncodeDecode.rora : EncodeDecode.Statement .rora :=
  EncodeDecode.of_inh 0x46 .rora rfl rfl rfl

theorem EncodeDecode.asra : EncodeDecode.Statement .asra :=
  EncodeDecode.of_inh 0x47 .asra rfl rfl rfl

theorem EncodeDecode.asla : EncodeDecode.Statement .asla :=
  EncodeDecode.of_inh 0x48 .asla rfl rfl rfl

theorem EncodeDecode.rola : EncodeDecode.Statement .rola :=
  EncodeDecode.of_inh 0x49 .rola rfl rfl rfl

theorem EncodeDecode.deca : EncodeDecode.Statement .deca :=
  EncodeDecode.of_inh 0x4A .deca rfl rfl rfl

theorem EncodeDecode.inca : EncodeDecode.Statement .inca :=
  EncodeDecode.of_inh 0x4C .inca rfl rfl rfl

theorem EncodeDecode.tsta : EncodeDecode.Statement .tsta :=
  EncodeDecode.of_inh 0x4D .tsta rfl rfl rfl

theorem EncodeDecode.clra : EncodeDecode.Statement .clra :=
  EncodeDecode.of_inh 0x4F .clra rfl rfl rfl

theorem EncodeDecode.negb : EncodeDecode.Statement .negb :=
  EncodeDecode.of_inh 0x50 .negb rfl rfl rfl

theorem EncodeDecode.comb : EncodeDecode.Statement .comb :=
  EncodeDecode.of_inh 0x53 .comb rfl rfl rfl

theorem EncodeDecode.lsrb : EncodeDecode.Statement .lsrb :=
  EncodeDecode.of_inh 0x54 .lsrb rfl rfl rfl

theorem EncodeDecode.rorb : EncodeDecode.Statement .rorb :=
  EncodeDecode.of_inh 0x56 .rorb rfl rfl rfl

theorem EncodeDecode.asrb : EncodeDecode.Statement .asrb :=
  EncodeDecode.of_inh 0x57 .asrb rfl rfl rfl

theorem EncodeDecode.aslb : EncodeDecode.Statement .aslb :=
  EncodeDecode.of_inh 0x58 .aslb rfl rfl rfl

theorem EncodeDecode.rolb : EncodeDecode.Statement .rolb :=
  EncodeDecode.of_inh 0x59 .rolb rfl rfl rfl

theorem EncodeDecode.decb : EncodeDecode.Statement .decb :=
  EncodeDecode.of_inh 0x5A .decb rfl rfl rfl

theorem EncodeDecode.incb : EncodeDecode.Statement .incb :=
  EncodeDecode.of_inh 0x5C .incb rfl rfl rfl

theorem EncodeDecode.tstb : EncodeDecode.Statement .tstb :=
  EncodeDecode.of_inh 0x5D .tstb rfl rfl rfl

theorem EncodeDecode.clrb : EncodeDecode.Statement .clrb :=
  EncodeDecode.of_inh 0x5F .clrb rfl rfl rfl

theorem EncodeDecode.negIdx (ff : Byte) : EncodeDecode.Statement (.negIdx ff) :=
  EncodeDecode.of_byte 0x60 .negIdx ff rfl rfl rfl

theorem EncodeDecode.aimIdx (ii : Byte) (ff : Byte) : EncodeDecode.Statement (.aimIdx ii ff) :=
  EncodeDecode.of_bytes2 0x61 .aimIdx ii ff rfl rfl rfl

theorem EncodeDecode.oimIdx (ii : Byte) (ff : Byte) : EncodeDecode.Statement (.oimIdx ii ff) :=
  EncodeDecode.of_bytes2 0x62 .oimIdx ii ff rfl rfl rfl

theorem EncodeDecode.comIdx (ff : Byte) : EncodeDecode.Statement (.comIdx ff) :=
  EncodeDecode.of_byte 0x63 .comIdx ff rfl rfl rfl

theorem EncodeDecode.lsrIdx (ff : Byte) : EncodeDecode.Statement (.lsrIdx ff) :=
  EncodeDecode.of_byte 0x64 .lsrIdx ff rfl rfl rfl

theorem EncodeDecode.eimIdx (ii : Byte) (ff : Byte) : EncodeDecode.Statement (.eimIdx ii ff) :=
  EncodeDecode.of_bytes2 0x65 .eimIdx ii ff rfl rfl rfl

theorem EncodeDecode.rorIdx (ff : Byte) : EncodeDecode.Statement (.rorIdx ff) :=
  EncodeDecode.of_byte 0x66 .rorIdx ff rfl rfl rfl

theorem EncodeDecode.asrIdx (ff : Byte) : EncodeDecode.Statement (.asrIdx ff) :=
  EncodeDecode.of_byte 0x67 .asrIdx ff rfl rfl rfl

theorem EncodeDecode.aslIdx (ff : Byte) : EncodeDecode.Statement (.aslIdx ff) :=
  EncodeDecode.of_byte 0x68 .aslIdx ff rfl rfl rfl

theorem EncodeDecode.rolIdx (ff : Byte) : EncodeDecode.Statement (.rolIdx ff) :=
  EncodeDecode.of_byte 0x69 .rolIdx ff rfl rfl rfl

theorem EncodeDecode.decIdx (ff : Byte) : EncodeDecode.Statement (.decIdx ff) :=
  EncodeDecode.of_byte 0x6A .decIdx ff rfl rfl rfl

theorem EncodeDecode.timIdx (ii : Byte) (ff : Byte) : EncodeDecode.Statement (.timIdx ii ff) :=
  EncodeDecode.of_bytes2 0x6B .timIdx ii ff rfl rfl rfl

theorem EncodeDecode.incIdx (ff : Byte) : EncodeDecode.Statement (.incIdx ff) :=
  EncodeDecode.of_byte 0x6C .incIdx ff rfl rfl rfl

theorem EncodeDecode.tstIdx (ff : Byte) : EncodeDecode.Statement (.tstIdx ff) :=
  EncodeDecode.of_byte 0x6D .tstIdx ff rfl rfl rfl

theorem EncodeDecode.jmpIdx (ff : Byte) : EncodeDecode.Statement (.jmpIdx ff) :=
  EncodeDecode.of_byte 0x6E .jmpIdx ff rfl rfl rfl

theorem EncodeDecode.clrIdx (ff : Byte) : EncodeDecode.Statement (.clrIdx ff) :=
  EncodeDecode.of_byte 0x6F .clrIdx ff rfl rfl rfl

theorem EncodeDecode.negExt (hhll : Word) : EncodeDecode.Statement (.negExt hhll) :=
  EncodeDecode.of_word 0x70 .negExt hhll rfl rfl rfl

theorem EncodeDecode.aimDir (ii : Byte) (dd : Byte) : EncodeDecode.Statement (.aimDir ii dd) :=
  EncodeDecode.of_bytes2 0x71 .aimDir ii dd rfl rfl rfl

theorem EncodeDecode.oimDir (ii : Byte) (dd : Byte) : EncodeDecode.Statement (.oimDir ii dd) :=
  EncodeDecode.of_bytes2 0x72 .oimDir ii dd rfl rfl rfl

theorem EncodeDecode.comExt (hhll : Word) : EncodeDecode.Statement (.comExt hhll) :=
  EncodeDecode.of_word 0x73 .comExt hhll rfl rfl rfl

theorem EncodeDecode.lsrExt (hhll : Word) : EncodeDecode.Statement (.lsrExt hhll) :=
  EncodeDecode.of_word 0x74 .lsrExt hhll rfl rfl rfl

theorem EncodeDecode.eimDir (ii : Byte) (dd : Byte) : EncodeDecode.Statement (.eimDir ii dd) :=
  EncodeDecode.of_bytes2 0x75 .eimDir ii dd rfl rfl rfl

theorem EncodeDecode.rorExt (hhll : Word) : EncodeDecode.Statement (.rorExt hhll) :=
  EncodeDecode.of_word 0x76 .rorExt hhll rfl rfl rfl

theorem EncodeDecode.asrExt (hhll : Word) : EncodeDecode.Statement (.asrExt hhll) :=
  EncodeDecode.of_word 0x77 .asrExt hhll rfl rfl rfl

theorem EncodeDecode.aslExt (hhll : Word) : EncodeDecode.Statement (.aslExt hhll) :=
  EncodeDecode.of_word 0x78 .aslExt hhll rfl rfl rfl

theorem EncodeDecode.rolExt (hhll : Word) : EncodeDecode.Statement (.rolExt hhll) :=
  EncodeDecode.of_word 0x79 .rolExt hhll rfl rfl rfl

theorem EncodeDecode.decExt (hhll : Word) : EncodeDecode.Statement (.decExt hhll) :=
  EncodeDecode.of_word 0x7A .decExt hhll rfl rfl rfl

theorem EncodeDecode.timDir (ii : Byte) (dd : Byte) : EncodeDecode.Statement (.timDir ii dd) :=
  EncodeDecode.of_bytes2 0x7B .timDir ii dd rfl rfl rfl

theorem EncodeDecode.incExt (hhll : Word) : EncodeDecode.Statement (.incExt hhll) :=
  EncodeDecode.of_word 0x7C .incExt hhll rfl rfl rfl

theorem EncodeDecode.tstExt (hhll : Word) : EncodeDecode.Statement (.tstExt hhll) :=
  EncodeDecode.of_word 0x7D .tstExt hhll rfl rfl rfl

theorem EncodeDecode.jmpExt (hhll : Word) : EncodeDecode.Statement (.jmpExt hhll) :=
  EncodeDecode.of_word 0x7E .jmpExt hhll rfl rfl rfl

theorem EncodeDecode.clrExt (hhll : Word) : EncodeDecode.Statement (.clrExt hhll) :=
  EncodeDecode.of_word 0x7F .clrExt hhll rfl rfl rfl

theorem EncodeDecode.subaImm (ii : Byte) : EncodeDecode.Statement (.subaImm ii) :=
  EncodeDecode.of_byte 0x80 .subaImm ii rfl rfl rfl

theorem EncodeDecode.cmpaImm (ii : Byte) : EncodeDecode.Statement (.cmpaImm ii) :=
  EncodeDecode.of_byte 0x81 .cmpaImm ii rfl rfl rfl

theorem EncodeDecode.sbcaImm (ii : Byte) : EncodeDecode.Statement (.sbcaImm ii) :=
  EncodeDecode.of_byte 0x82 .sbcaImm ii rfl rfl rfl

theorem EncodeDecode.subdImm (jjkk : Word) : EncodeDecode.Statement (.subdImm jjkk) :=
  EncodeDecode.of_word 0x83 .subdImm jjkk rfl rfl rfl

theorem EncodeDecode.andaImm (ii : Byte) : EncodeDecode.Statement (.andaImm ii) :=
  EncodeDecode.of_byte 0x84 .andaImm ii rfl rfl rfl

theorem EncodeDecode.bitaImm (ii : Byte) : EncodeDecode.Statement (.bitaImm ii) :=
  EncodeDecode.of_byte 0x85 .bitaImm ii rfl rfl rfl

theorem EncodeDecode.ldaaImm (ii : Byte) : EncodeDecode.Statement (.ldaaImm ii) :=
  EncodeDecode.of_byte 0x86 .ldaaImm ii rfl rfl rfl

theorem EncodeDecode.eoraImm (ii : Byte) : EncodeDecode.Statement (.eoraImm ii) :=
  EncodeDecode.of_byte 0x88 .eoraImm ii rfl rfl rfl

theorem EncodeDecode.adcaImm (ii : Byte) : EncodeDecode.Statement (.adcaImm ii) :=
  EncodeDecode.of_byte 0x89 .adcaImm ii rfl rfl rfl

theorem EncodeDecode.oraaImm (ii : Byte) : EncodeDecode.Statement (.oraaImm ii) :=
  EncodeDecode.of_byte 0x8A .oraaImm ii rfl rfl rfl

theorem EncodeDecode.addaImm (ii : Byte) : EncodeDecode.Statement (.addaImm ii) :=
  EncodeDecode.of_byte 0x8B .addaImm ii rfl rfl rfl

theorem EncodeDecode.cpxImm (jjkk : Word) : EncodeDecode.Statement (.cpxImm jjkk) :=
  EncodeDecode.of_word 0x8C .cpxImm jjkk rfl rfl rfl

theorem EncodeDecode.bsr (rr : Byte) : EncodeDecode.Statement (.bsr rr) :=
  EncodeDecode.of_byte 0x8D .bsr rr rfl rfl rfl

theorem EncodeDecode.ldsImm (jjkk : Word) : EncodeDecode.Statement (.ldsImm jjkk) :=
  EncodeDecode.of_word 0x8E .ldsImm jjkk rfl rfl rfl

theorem EncodeDecode.subaDir (dd : Byte) : EncodeDecode.Statement (.subaDir dd) :=
  EncodeDecode.of_byte 0x90 .subaDir dd rfl rfl rfl

theorem EncodeDecode.cmpaDir (dd : Byte) : EncodeDecode.Statement (.cmpaDir dd) :=
  EncodeDecode.of_byte 0x91 .cmpaDir dd rfl rfl rfl

theorem EncodeDecode.sbcaDir (dd : Byte) : EncodeDecode.Statement (.sbcaDir dd) :=
  EncodeDecode.of_byte 0x92 .sbcaDir dd rfl rfl rfl

theorem EncodeDecode.subdDir (dd : Byte) : EncodeDecode.Statement (.subdDir dd) :=
  EncodeDecode.of_byte 0x93 .subdDir dd rfl rfl rfl

theorem EncodeDecode.andaDir (dd : Byte) : EncodeDecode.Statement (.andaDir dd) :=
  EncodeDecode.of_byte 0x94 .andaDir dd rfl rfl rfl

theorem EncodeDecode.bitaDir (dd : Byte) : EncodeDecode.Statement (.bitaDir dd) :=
  EncodeDecode.of_byte 0x95 .bitaDir dd rfl rfl rfl

theorem EncodeDecode.ldaaDir (dd : Byte) : EncodeDecode.Statement (.ldaaDir dd) :=
  EncodeDecode.of_byte 0x96 .ldaaDir dd rfl rfl rfl

theorem EncodeDecode.staaDir (dd : Byte) : EncodeDecode.Statement (.staaDir dd) :=
  EncodeDecode.of_byte 0x97 .staaDir dd rfl rfl rfl

theorem EncodeDecode.eoraDir (dd : Byte) : EncodeDecode.Statement (.eoraDir dd) :=
  EncodeDecode.of_byte 0x98 .eoraDir dd rfl rfl rfl

theorem EncodeDecode.adcaDir (dd : Byte) : EncodeDecode.Statement (.adcaDir dd) :=
  EncodeDecode.of_byte 0x99 .adcaDir dd rfl rfl rfl

theorem EncodeDecode.oraaDir (dd : Byte) : EncodeDecode.Statement (.oraaDir dd) :=
  EncodeDecode.of_byte 0x9A .oraaDir dd rfl rfl rfl

theorem EncodeDecode.addaDir (dd : Byte) : EncodeDecode.Statement (.addaDir dd) :=
  EncodeDecode.of_byte 0x9B .addaDir dd rfl rfl rfl

theorem EncodeDecode.cpxDir (dd : Byte) : EncodeDecode.Statement (.cpxDir dd) :=
  EncodeDecode.of_byte 0x9C .cpxDir dd rfl rfl rfl

theorem EncodeDecode.jsrDir (dd : Byte) : EncodeDecode.Statement (.jsrDir dd) :=
  EncodeDecode.of_byte 0x9D .jsrDir dd rfl rfl rfl

theorem EncodeDecode.ldsDir (dd : Byte) : EncodeDecode.Statement (.ldsDir dd) :=
  EncodeDecode.of_byte 0x9E .ldsDir dd rfl rfl rfl

theorem EncodeDecode.stsDir (dd : Byte) : EncodeDecode.Statement (.stsDir dd) :=
  EncodeDecode.of_byte 0x9F .stsDir dd rfl rfl rfl

theorem EncodeDecode.subaIdx (ff : Byte) : EncodeDecode.Statement (.subaIdx ff) :=
  EncodeDecode.of_byte 0xA0 .subaIdx ff rfl rfl rfl

theorem EncodeDecode.cmpaIdx (ff : Byte) : EncodeDecode.Statement (.cmpaIdx ff) :=
  EncodeDecode.of_byte 0xA1 .cmpaIdx ff rfl rfl rfl

theorem EncodeDecode.sbcaIdx (ff : Byte) : EncodeDecode.Statement (.sbcaIdx ff) :=
  EncodeDecode.of_byte 0xA2 .sbcaIdx ff rfl rfl rfl

theorem EncodeDecode.subdIdx (ff : Byte) : EncodeDecode.Statement (.subdIdx ff) :=
  EncodeDecode.of_byte 0xA3 .subdIdx ff rfl rfl rfl

theorem EncodeDecode.andaIdx (ff : Byte) : EncodeDecode.Statement (.andaIdx ff) :=
  EncodeDecode.of_byte 0xA4 .andaIdx ff rfl rfl rfl

theorem EncodeDecode.bitaIdx (ff : Byte) : EncodeDecode.Statement (.bitaIdx ff) :=
  EncodeDecode.of_byte 0xA5 .bitaIdx ff rfl rfl rfl

theorem EncodeDecode.ldaaIdx (ff : Byte) : EncodeDecode.Statement (.ldaaIdx ff) :=
  EncodeDecode.of_byte 0xA6 .ldaaIdx ff rfl rfl rfl

theorem EncodeDecode.staaIdx (ff : Byte) : EncodeDecode.Statement (.staaIdx ff) :=
  EncodeDecode.of_byte 0xA7 .staaIdx ff rfl rfl rfl

theorem EncodeDecode.eoraIdx (ff : Byte) : EncodeDecode.Statement (.eoraIdx ff) :=
  EncodeDecode.of_byte 0xA8 .eoraIdx ff rfl rfl rfl

theorem EncodeDecode.adcaIdx (ff : Byte) : EncodeDecode.Statement (.adcaIdx ff) :=
  EncodeDecode.of_byte 0xA9 .adcaIdx ff rfl rfl rfl

theorem EncodeDecode.oraaIdx (ff : Byte) : EncodeDecode.Statement (.oraaIdx ff) :=
  EncodeDecode.of_byte 0xAA .oraaIdx ff rfl rfl rfl

theorem EncodeDecode.addaIdx (ff : Byte) : EncodeDecode.Statement (.addaIdx ff) :=
  EncodeDecode.of_byte 0xAB .addaIdx ff rfl rfl rfl

theorem EncodeDecode.cpxIdx (ff : Byte) : EncodeDecode.Statement (.cpxIdx ff) :=
  EncodeDecode.of_byte 0xAC .cpxIdx ff rfl rfl rfl

theorem EncodeDecode.jsrIdx (ff : Byte) : EncodeDecode.Statement (.jsrIdx ff) :=
  EncodeDecode.of_byte 0xAD .jsrIdx ff rfl rfl rfl

theorem EncodeDecode.ldsIdx (ff : Byte) : EncodeDecode.Statement (.ldsIdx ff) :=
  EncodeDecode.of_byte 0xAE .ldsIdx ff rfl rfl rfl

theorem EncodeDecode.stsIdx (ff : Byte) : EncodeDecode.Statement (.stsIdx ff) :=
  EncodeDecode.of_byte 0xAF .stsIdx ff rfl rfl rfl

theorem EncodeDecode.subaExt (hhll : Word) : EncodeDecode.Statement (.subaExt hhll) :=
  EncodeDecode.of_word 0xB0 .subaExt hhll rfl rfl rfl

theorem EncodeDecode.cmpaExt (hhll : Word) : EncodeDecode.Statement (.cmpaExt hhll) :=
  EncodeDecode.of_word 0xB1 .cmpaExt hhll rfl rfl rfl

theorem EncodeDecode.sbcaExt (hhll : Word) : EncodeDecode.Statement (.sbcaExt hhll) :=
  EncodeDecode.of_word 0xB2 .sbcaExt hhll rfl rfl rfl

theorem EncodeDecode.subdExt (hhll : Word) : EncodeDecode.Statement (.subdExt hhll) :=
  EncodeDecode.of_word 0xB3 .subdExt hhll rfl rfl rfl

theorem EncodeDecode.andaExt (hhll : Word) : EncodeDecode.Statement (.andaExt hhll) :=
  EncodeDecode.of_word 0xB4 .andaExt hhll rfl rfl rfl

theorem EncodeDecode.bitaExt (hhll : Word) : EncodeDecode.Statement (.bitaExt hhll) :=
  EncodeDecode.of_word 0xB5 .bitaExt hhll rfl rfl rfl

theorem EncodeDecode.ldaaExt (hhll : Word) : EncodeDecode.Statement (.ldaaExt hhll) :=
  EncodeDecode.of_word 0xB6 .ldaaExt hhll rfl rfl rfl

theorem EncodeDecode.staaExt (hhll : Word) : EncodeDecode.Statement (.staaExt hhll) :=
  EncodeDecode.of_word 0xB7 .staaExt hhll rfl rfl rfl

theorem EncodeDecode.eoraExt (hhll : Word) : EncodeDecode.Statement (.eoraExt hhll) :=
  EncodeDecode.of_word 0xB8 .eoraExt hhll rfl rfl rfl

theorem EncodeDecode.adcaExt (hhll : Word) : EncodeDecode.Statement (.adcaExt hhll) :=
  EncodeDecode.of_word 0xB9 .adcaExt hhll rfl rfl rfl

theorem EncodeDecode.oraaExt (hhll : Word) : EncodeDecode.Statement (.oraaExt hhll) :=
  EncodeDecode.of_word 0xBA .oraaExt hhll rfl rfl rfl

theorem EncodeDecode.addaExt (hhll : Word) : EncodeDecode.Statement (.addaExt hhll) :=
  EncodeDecode.of_word 0xBB .addaExt hhll rfl rfl rfl

theorem EncodeDecode.cpxExt (hhll : Word) : EncodeDecode.Statement (.cpxExt hhll) :=
  EncodeDecode.of_word 0xBC .cpxExt hhll rfl rfl rfl

theorem EncodeDecode.jsrExt (hhll : Word) : EncodeDecode.Statement (.jsrExt hhll) :=
  EncodeDecode.of_word 0xBD .jsrExt hhll rfl rfl rfl

theorem EncodeDecode.ldsExt (hhll : Word) : EncodeDecode.Statement (.ldsExt hhll) :=
  EncodeDecode.of_word 0xBE .ldsExt hhll rfl rfl rfl

theorem EncodeDecode.stsExt (hhll : Word) : EncodeDecode.Statement (.stsExt hhll) :=
  EncodeDecode.of_word 0xBF .stsExt hhll rfl rfl rfl

theorem EncodeDecode.subbImm (ii : Byte) : EncodeDecode.Statement (.subbImm ii) :=
  EncodeDecode.of_byte 0xC0 .subbImm ii rfl rfl rfl

theorem EncodeDecode.cmpbImm (ii : Byte) : EncodeDecode.Statement (.cmpbImm ii) :=
  EncodeDecode.of_byte 0xC1 .cmpbImm ii rfl rfl rfl

theorem EncodeDecode.sbcbImm (ii : Byte) : EncodeDecode.Statement (.sbcbImm ii) :=
  EncodeDecode.of_byte 0xC2 .sbcbImm ii rfl rfl rfl

theorem EncodeDecode.adddImm (jjkk : Word) : EncodeDecode.Statement (.adddImm jjkk) :=
  EncodeDecode.of_word 0xC3 .adddImm jjkk rfl rfl rfl

theorem EncodeDecode.andbImm (ii : Byte) : EncodeDecode.Statement (.andbImm ii) :=
  EncodeDecode.of_byte 0xC4 .andbImm ii rfl rfl rfl

theorem EncodeDecode.bitbImm (ii : Byte) : EncodeDecode.Statement (.bitbImm ii) :=
  EncodeDecode.of_byte 0xC5 .bitbImm ii rfl rfl rfl

theorem EncodeDecode.ldabImm (ii : Byte) : EncodeDecode.Statement (.ldabImm ii) :=
  EncodeDecode.of_byte 0xC6 .ldabImm ii rfl rfl rfl

theorem EncodeDecode.eorbImm (ii : Byte) : EncodeDecode.Statement (.eorbImm ii) :=
  EncodeDecode.of_byte 0xC8 .eorbImm ii rfl rfl rfl

theorem EncodeDecode.adcbImm (ii : Byte) : EncodeDecode.Statement (.adcbImm ii) :=
  EncodeDecode.of_byte 0xC9 .adcbImm ii rfl rfl rfl

theorem EncodeDecode.orabImm (ii : Byte) : EncodeDecode.Statement (.orabImm ii) :=
  EncodeDecode.of_byte 0xCA .orabImm ii rfl rfl rfl

theorem EncodeDecode.addbImm (ii : Byte) : EncodeDecode.Statement (.addbImm ii) :=
  EncodeDecode.of_byte 0xCB .addbImm ii rfl rfl rfl

theorem EncodeDecode.lddImm (jjkk : Word) : EncodeDecode.Statement (.lddImm jjkk) :=
  EncodeDecode.of_word 0xCC .lddImm jjkk rfl rfl rfl

theorem EncodeDecode.ldxImm (jjkk : Word) : EncodeDecode.Statement (.ldxImm jjkk) :=
  EncodeDecode.of_word 0xCE .ldxImm jjkk rfl rfl rfl

theorem EncodeDecode.subbDir (dd : Byte) : EncodeDecode.Statement (.subbDir dd) :=
  EncodeDecode.of_byte 0xD0 .subbDir dd rfl rfl rfl

theorem EncodeDecode.cmpbDir (dd : Byte) : EncodeDecode.Statement (.cmpbDir dd) :=
  EncodeDecode.of_byte 0xD1 .cmpbDir dd rfl rfl rfl

theorem EncodeDecode.sbcbDir (dd : Byte) : EncodeDecode.Statement (.sbcbDir dd) :=
  EncodeDecode.of_byte 0xD2 .sbcbDir dd rfl rfl rfl

theorem EncodeDecode.adddDir (dd : Byte) : EncodeDecode.Statement (.adddDir dd) :=
  EncodeDecode.of_byte 0xD3 .adddDir dd rfl rfl rfl

theorem EncodeDecode.andbDir (dd : Byte) : EncodeDecode.Statement (.andbDir dd) :=
  EncodeDecode.of_byte 0xD4 .andbDir dd rfl rfl rfl

theorem EncodeDecode.bitbDir (dd : Byte) : EncodeDecode.Statement (.bitbDir dd) :=
  EncodeDecode.of_byte 0xD5 .bitbDir dd rfl rfl rfl

theorem EncodeDecode.ldabDir (dd : Byte) : EncodeDecode.Statement (.ldabDir dd) :=
  EncodeDecode.of_byte 0xD6 .ldabDir dd rfl rfl rfl

theorem EncodeDecode.stabDir (dd : Byte) : EncodeDecode.Statement (.stabDir dd) :=
  EncodeDecode.of_byte 0xD7 .stabDir dd rfl rfl rfl

theorem EncodeDecode.eorbDir (dd : Byte) : EncodeDecode.Statement (.eorbDir dd) :=
  EncodeDecode.of_byte 0xD8 .eorbDir dd rfl rfl rfl

theorem EncodeDecode.adcbDir (dd : Byte) : EncodeDecode.Statement (.adcbDir dd) :=
  EncodeDecode.of_byte 0xD9 .adcbDir dd rfl rfl rfl

theorem EncodeDecode.orabDir (dd : Byte) : EncodeDecode.Statement (.orabDir dd) :=
  EncodeDecode.of_byte 0xDA .orabDir dd rfl rfl rfl

theorem EncodeDecode.addbDir (dd : Byte) : EncodeDecode.Statement (.addbDir dd) :=
  EncodeDecode.of_byte 0xDB .addbDir dd rfl rfl rfl

theorem EncodeDecode.lddDir (dd : Byte) : EncodeDecode.Statement (.lddDir dd) :=
  EncodeDecode.of_byte 0xDC .lddDir dd rfl rfl rfl

theorem EncodeDecode.stdDir (dd : Byte) : EncodeDecode.Statement (.stdDir dd) :=
  EncodeDecode.of_byte 0xDD .stdDir dd rfl rfl rfl

theorem EncodeDecode.ldxDir (dd : Byte) : EncodeDecode.Statement (.ldxDir dd) :=
  EncodeDecode.of_byte 0xDE .ldxDir dd rfl rfl rfl

theorem EncodeDecode.stxDir (dd : Byte) : EncodeDecode.Statement (.stxDir dd) :=
  EncodeDecode.of_byte 0xDF .stxDir dd rfl rfl rfl

theorem EncodeDecode.subbIdx (ff : Byte) : EncodeDecode.Statement (.subbIdx ff) :=
  EncodeDecode.of_byte 0xE0 .subbIdx ff rfl rfl rfl

theorem EncodeDecode.cmpbIdx (ff : Byte) : EncodeDecode.Statement (.cmpbIdx ff) :=
  EncodeDecode.of_byte 0xE1 .cmpbIdx ff rfl rfl rfl

theorem EncodeDecode.sbcbIdx (ff : Byte) : EncodeDecode.Statement (.sbcbIdx ff) :=
  EncodeDecode.of_byte 0xE2 .sbcbIdx ff rfl rfl rfl

theorem EncodeDecode.adddIdx (ff : Byte) : EncodeDecode.Statement (.adddIdx ff) :=
  EncodeDecode.of_byte 0xE3 .adddIdx ff rfl rfl rfl

theorem EncodeDecode.andbIdx (ff : Byte) : EncodeDecode.Statement (.andbIdx ff) :=
  EncodeDecode.of_byte 0xE4 .andbIdx ff rfl rfl rfl

theorem EncodeDecode.bitbIdx (ff : Byte) : EncodeDecode.Statement (.bitbIdx ff) :=
  EncodeDecode.of_byte 0xE5 .bitbIdx ff rfl rfl rfl

theorem EncodeDecode.ldabIdx (ff : Byte) : EncodeDecode.Statement (.ldabIdx ff) :=
  EncodeDecode.of_byte 0xE6 .ldabIdx ff rfl rfl rfl

theorem EncodeDecode.stabIdx (ff : Byte) : EncodeDecode.Statement (.stabIdx ff) :=
  EncodeDecode.of_byte 0xE7 .stabIdx ff rfl rfl rfl

theorem EncodeDecode.eorbIdx (ff : Byte) : EncodeDecode.Statement (.eorbIdx ff) :=
  EncodeDecode.of_byte 0xE8 .eorbIdx ff rfl rfl rfl

theorem EncodeDecode.adcbIdx (ff : Byte) : EncodeDecode.Statement (.adcbIdx ff) :=
  EncodeDecode.of_byte 0xE9 .adcbIdx ff rfl rfl rfl

theorem EncodeDecode.orabIdx (ff : Byte) : EncodeDecode.Statement (.orabIdx ff) :=
  EncodeDecode.of_byte 0xEA .orabIdx ff rfl rfl rfl

theorem EncodeDecode.addbIdx (ff : Byte) : EncodeDecode.Statement (.addbIdx ff) :=
  EncodeDecode.of_byte 0xEB .addbIdx ff rfl rfl rfl

theorem EncodeDecode.lddIdx (ff : Byte) : EncodeDecode.Statement (.lddIdx ff) :=
  EncodeDecode.of_byte 0xEC .lddIdx ff rfl rfl rfl

theorem EncodeDecode.stdIdx (ff : Byte) : EncodeDecode.Statement (.stdIdx ff) :=
  EncodeDecode.of_byte 0xED .stdIdx ff rfl rfl rfl

theorem EncodeDecode.ldxIdx (ff : Byte) : EncodeDecode.Statement (.ldxIdx ff) :=
  EncodeDecode.of_byte 0xEE .ldxIdx ff rfl rfl rfl

theorem EncodeDecode.stxIdx (ff : Byte) : EncodeDecode.Statement (.stxIdx ff) :=
  EncodeDecode.of_byte 0xEF .stxIdx ff rfl rfl rfl

theorem EncodeDecode.subbExt (hhll : Word) : EncodeDecode.Statement (.subbExt hhll) :=
  EncodeDecode.of_word 0xF0 .subbExt hhll rfl rfl rfl

theorem EncodeDecode.cmpbExt (hhll : Word) : EncodeDecode.Statement (.cmpbExt hhll) :=
  EncodeDecode.of_word 0xF1 .cmpbExt hhll rfl rfl rfl

theorem EncodeDecode.sbcbExt (hhll : Word) : EncodeDecode.Statement (.sbcbExt hhll) :=
  EncodeDecode.of_word 0xF2 .sbcbExt hhll rfl rfl rfl

theorem EncodeDecode.adddExt (hhll : Word) : EncodeDecode.Statement (.adddExt hhll) :=
  EncodeDecode.of_word 0xF3 .adddExt hhll rfl rfl rfl

theorem EncodeDecode.andbExt (hhll : Word) : EncodeDecode.Statement (.andbExt hhll) :=
  EncodeDecode.of_word 0xF4 .andbExt hhll rfl rfl rfl

theorem EncodeDecode.bitbExt (hhll : Word) : EncodeDecode.Statement (.bitbExt hhll) :=
  EncodeDecode.of_word 0xF5 .bitbExt hhll rfl rfl rfl

theorem EncodeDecode.ldabExt (hhll : Word) : EncodeDecode.Statement (.ldabExt hhll) :=
  EncodeDecode.of_word 0xF6 .ldabExt hhll rfl rfl rfl

theorem EncodeDecode.stabExt (hhll : Word) : EncodeDecode.Statement (.stabExt hhll) :=
  EncodeDecode.of_word 0xF7 .stabExt hhll rfl rfl rfl

theorem EncodeDecode.eorbExt (hhll : Word) : EncodeDecode.Statement (.eorbExt hhll) :=
  EncodeDecode.of_word 0xF8 .eorbExt hhll rfl rfl rfl

theorem EncodeDecode.adcbExt (hhll : Word) : EncodeDecode.Statement (.adcbExt hhll) :=
  EncodeDecode.of_word 0xF9 .adcbExt hhll rfl rfl rfl

theorem EncodeDecode.orabExt (hhll : Word) : EncodeDecode.Statement (.orabExt hhll) :=
  EncodeDecode.of_word 0xFA .orabExt hhll rfl rfl rfl

theorem EncodeDecode.addbExt (hhll : Word) : EncodeDecode.Statement (.addbExt hhll) :=
  EncodeDecode.of_word 0xFB .addbExt hhll rfl rfl rfl

theorem EncodeDecode.lddExt (hhll : Word) : EncodeDecode.Statement (.lddExt hhll) :=
  EncodeDecode.of_word 0xFC .lddExt hhll rfl rfl rfl

theorem EncodeDecode.stdExt (hhll : Word) : EncodeDecode.Statement (.stdExt hhll) :=
  EncodeDecode.of_word 0xFD .stdExt hhll rfl rfl rfl

theorem EncodeDecode.ldxExt (hhll : Word) : EncodeDecode.Statement (.ldxExt hhll) :=
  EncodeDecode.of_word 0xFE .ldxExt hhll rfl rfl rfl

theorem EncodeDecode.stxExt (hhll : Word) : EncodeDecode.Statement (.stxExt hhll) :=
  EncodeDecode.of_word 0xFF .stxExt hhll rfl rfl rfl

end Sys2Proof.Laws
end

