-- ==== Sys2Proof/Laws/Decode.lean ====
section
/-! SUPPORT. What an entry of the opcode map says of the instructions it makes, for each of the 256 opcode bytes. -/

namespace Sys2Proof.Laws

open Sys2Proof

/-- The entry of an opcode byte makes well-formed instructions with that opcode and with the operand bytes it was given; an
illegal entry stands at a byte of R104. -/
def EntryFits (op : Byte) : OpcodeEntry → Prop
  | .ill => op ∈ illegalOpcodes
  | .inh i => i.wellFormed = true ∧ i.opcode = op ∧ i.operandBytes = []
  | .byte mk => ∀ v, (mk v).wellFormed = true ∧ (mk v).opcode = op ∧ (mk v).operandBytes = [v]
  | .word mk => ∀ w, (mk w).wellFormed = true ∧ (mk w).opcode = op ∧ (mk w).operandBytes = wordBytes w
  | .bytes2 mk => ∀ v w, (mk v w).wellFormed = true ∧ (mk v w).opcode = op ∧ (mk v w).operandBytes = [v, w]

theorem EntryFits.of_eq {op : Byte} {e : OpcodeEntry} (he : opcodeEntry op = e) (h : EntryFits op e) :
    EntryFits op (opcodeEntry op) :=
  he ▸ h

theorem EntryFits.of_ill {op : Byte} (he : opcodeEntry op = .ill) (h : op ∈ illegalOpcodes) :
    EntryFits op (opcodeEntry op) :=
  EntryFits.of_eq he h

theorem EntryFits.of_inh {op : Byte} {i : Instr} (he : opcodeEntry op = .inh i) (hw : i.wellFormed = true)
    (ho : i.opcode = op) (hb : i.operandBytes = []) : EntryFits op (opcodeEntry op) :=
  EntryFits.of_eq he ⟨hw, ho, hb⟩

theorem EntryFits.of_byte {op : Byte} {mk : Byte → Instr} (he : opcodeEntry op = .byte mk)
    (hw : ∀ v, (mk v).wellFormed = true) (ho : ∀ v, (mk v).opcode = op) (hb : ∀ v, (mk v).operandBytes = [v]) :
    EntryFits op (opcodeEntry op) :=
  EntryFits.of_eq he fun v => ⟨hw v, ho v, hb v⟩

theorem EntryFits.of_word {op : Byte} {mk : Word → Instr} (he : opcodeEntry op = .word mk)
    (hw : ∀ w, (mk w).wellFormed = true) (ho : ∀ w, (mk w).opcode = op)
    (hb : ∀ w, (mk w).operandBytes = wordBytes w) : EntryFits op (opcodeEntry op) :=
  EntryFits.of_eq he fun w => ⟨hw w, ho w, hb w⟩

theorem EntryFits.of_bytes2 {op : Byte} {mk : Byte → Byte → Instr} (he : opcodeEntry op = .bytes2 mk)
    (hw : ∀ v w, (mk v w).wellFormed = true) (ho : ∀ v w, (mk v w).opcode = op)
    (hb : ∀ v w, (mk v w).operandBytes = [v, w]) : EntryFits op (opcodeEntry op) :=
  EntryFits.of_eq he fun v w => ⟨hw v w, ho v w, hb v w⟩

theorem EntryFits.rows_0 (n : Nat) (h' : n < 32) :
    EntryFits (BitVec.ofNat 8 n) (opcodeEntry (BitVec.ofNat 8 n)) := by
  interval_cases n <;> first
    | exact EntryFits.of_inh rfl rfl rfl rfl
    | exact EntryFits.of_byte rfl (fun _ => rfl) (fun _ => rfl) (fun _ => rfl)
    | exact EntryFits.of_word rfl (fun _ => rfl) (fun _ => rfl) (fun _ => rfl)
    | exact EntryFits.of_bytes2 rfl (fun _ _ => rfl) (fun _ _ => rfl) (fun _ _ => rfl)
    | exact EntryFits.of_ill rfl (by decide)

theorem EntryFits.rows_2 (n : Nat) (h : 32 ≤ n) (h' : n < 64) :
    EntryFits (BitVec.ofNat 8 n) (opcodeEntry (BitVec.ofNat 8 n)) := by
  interval_cases n <;> first
    | exact EntryFits.of_inh rfl rfl rfl rfl
    | exact EntryFits.of_byte rfl (fun _ => rfl) (fun _ => rfl) (fun _ => rfl)

theorem EntryFits.rows_4 (n : Nat) (h : 64 ≤ n) (h' : n < 96) :
    EntryFits (BitVec.ofNat 8 n) (opcodeEntry (BitVec.ofNat 8 n)) := by
  interval_cases n <;> first
    | exact EntryFits.of_inh rfl rfl rfl rfl
    | exact EntryFits.of_byte rfl (fun _ => rfl) (fun _ => rfl) (fun _ => rfl)
    | exact EntryFits.of_word rfl (fun _ => rfl) (fun _ => rfl) (fun _ => rfl)
    | exact EntryFits.of_bytes2 rfl (fun _ _ => rfl) (fun _ _ => rfl) (fun _ _ => rfl)
    | exact EntryFits.of_ill rfl (by decide)

theorem EntryFits.rows_6 (n : Nat) (h : 96 ≤ n) (h' : n < 128) :
    EntryFits (BitVec.ofNat 8 n) (opcodeEntry (BitVec.ofNat 8 n)) := by
  interval_cases n <;> first
    | exact EntryFits.of_inh rfl rfl rfl rfl
    | exact EntryFits.of_byte rfl (fun _ => rfl) (fun _ => rfl) (fun _ => rfl)
    | exact EntryFits.of_word rfl (fun _ => rfl) (fun _ => rfl) (fun _ => rfl)
    | exact EntryFits.of_bytes2 rfl (fun _ _ => rfl) (fun _ _ => rfl) (fun _ _ => rfl)

theorem EntryFits.rows_8 (n : Nat) (h : 128 ≤ n) (h' : n < 160) :
    EntryFits (BitVec.ofNat 8 n) (opcodeEntry (BitVec.ofNat 8 n)) := by
  interval_cases n <;> first
    | exact EntryFits.of_inh rfl rfl rfl rfl
    | exact EntryFits.of_byte rfl (fun _ => rfl) (fun _ => rfl) (fun _ => rfl)
    | exact EntryFits.of_word rfl (fun _ => rfl) (fun _ => rfl) (fun _ => rfl)
    | exact EntryFits.of_bytes2 rfl (fun _ _ => rfl) (fun _ _ => rfl) (fun _ _ => rfl)
    | exact EntryFits.of_ill rfl (by decide)

theorem EntryFits.rows_10 (n : Nat) (h : 160 ≤ n) (h' : n < 192) :
    EntryFits (BitVec.ofNat 8 n) (opcodeEntry (BitVec.ofNat 8 n)) := by
  interval_cases n <;> first
    | exact EntryFits.of_inh rfl rfl rfl rfl
    | exact EntryFits.of_byte rfl (fun _ => rfl) (fun _ => rfl) (fun _ => rfl)
    | exact EntryFits.of_word rfl (fun _ => rfl) (fun _ => rfl) (fun _ => rfl)

theorem EntryFits.rows_12 (n : Nat) (h : 192 ≤ n) (h' : n < 224) :
    EntryFits (BitVec.ofNat 8 n) (opcodeEntry (BitVec.ofNat 8 n)) := by
  interval_cases n <;> first
    | exact EntryFits.of_inh rfl rfl rfl rfl
    | exact EntryFits.of_byte rfl (fun _ => rfl) (fun _ => rfl) (fun _ => rfl)
    | exact EntryFits.of_word rfl (fun _ => rfl) (fun _ => rfl) (fun _ => rfl)
    | exact EntryFits.of_bytes2 rfl (fun _ _ => rfl) (fun _ _ => rfl) (fun _ _ => rfl)
    | exact EntryFits.of_ill rfl (by decide)

theorem EntryFits.rows_14 (n : Nat) (h : 224 ≤ n) (h' : n < 256) :
    EntryFits (BitVec.ofNat 8 n) (opcodeEntry (BitVec.ofNat 8 n)) := by
  interval_cases n <;> first
    | exact EntryFits.of_inh rfl rfl rfl rfl
    | exact EntryFits.of_byte rfl (fun _ => rfl) (fun _ => rfl) (fun _ => rfl)
    | exact EntryFits.of_word rfl (fun _ => rfl) (fun _ => rfl) (fun _ => rfl)

/-- Every opcode byte has an entry that fits it (30_encoding.md R102, R103). -/
theorem opcodeEntry_fits (op : Byte) : EntryFits op (opcodeEntry op) := by
  have h : EntryFits (BitVec.ofNat 8 op.toNat) (opcodeEntry (BitVec.ofNat 8 op.toNat)) := by
    have hlt := op.isLt
    by_cases h0 : op.toNat < 32
    · exact EntryFits.rows_0 _ h0
    by_cases h1 : op.toNat < 64
    · exact EntryFits.rows_2 _ (by omega) h1
    by_cases h2 : op.toNat < 96
    · exact EntryFits.rows_4 _ (by omega) h2
    by_cases h3 : op.toNat < 128
    · exact EntryFits.rows_6 _ (by omega) h3
    by_cases h4 : op.toNat < 160
    · exact EntryFits.rows_8 _ (by omega) h4
    by_cases h5 : op.toNat < 192
    · exact EntryFits.rows_10 _ (by omega) h5
    by_cases h6 : op.toNat < 224
    · exact EntryFits.rows_12 _ (by omega) h6
    by_cases h7 : op.toNat < 256
    · exact EntryFits.rows_14 _ (by omega) h7
    exact absurd hlt h7
  simpa using h

/-- The high byte of two joined bytes is the first, the low byte the second. -/
theorem wordBytes_append (v w : Byte) : wordBytes (v ++ w) = [v, w] := by
  have h1 : (v ++ w).extractLsb' 8 8 = v := BitVec.extractLsb'_append_eq_left
  have h2 : (v ++ w).extractLsb' 0 8 = w := BitVec.extractLsb'_append_eq_right
  simp only [wordBytes]
  exact congrArg₂ (fun x y => [x, y]) h1 h2

/-- What is read from an opcode byte and operand bytes is well formed, has that opcode, and has as its operand bytes the
leading ones of those given, as many as the opcode asks for. -/
theorem instrOf_spec (op b1 b2 : Byte) :
    (instrOf op b1 b2).wellFormed = true ∧ (instrOf op b1 b2).opcode = op ∧
      (instrOf op b1 b2).operandBytes = [b1, b2].take (operandCount op) := by
  have h := opcodeEntry_fits op
  unfold instrOf operandCount OpcodeEntry.instr OpcodeEntry.operandCount
  revert h
  cases opcodeEntry op with
  | ill => intro h; exact ⟨by simpa [Instr.wellFormed, EntryFits] using h, rfl, rfl⟩
  | inh i => intro h; exact ⟨h.1, h.2.1, by simp [h.2.2]⟩
  | byte mk => intro h; exact ⟨(h b1).1, (h b1).2.1, by simp [(h b1).2.2]⟩
  | word mk => intro h; exact ⟨(h _).1, (h _).2.1, by simp [(h _).2.2, wordBytes_append]⟩
  | bytes2 mk => intro h; exact ⟨(h _ _).1, (h _ _).2.1, by simp [(h _ _).2.2]⟩

theorem operandCount_le (op : Byte) : operandCount op ≤ 2 := by
  unfold operandCount OpcodeEntry.operandCount
  split <;> omega

/-- Decoding under the default table. -/
theorem decode_cons (op : Byte) (rest : List Byte) :
    decode (op :: rest) =
      if rest.length < operandCount op then .error (.truncated op)
      else .ok (instrOf op (rest.getD 0 0) (rest.getD 1 0), rest.drop (operandCount op)) :=
  rfl

/-- The default table is a table of rows. -/
theorem opcodeEntry_valid : IsaTable.Valid opcodeEntry :=
  fun op => ⟨op, rfl⟩

/-- An instruction of a defined entry does not depend on the opcode byte. -/
theorem instr_of_legal {e : OpcodeEntry} (h : e.isIllegal = false) (op row b1 b2 : Byte) :
    e.instr op b1 b2 = e.instr row b1 b2 := by
  cases e <;> first | rfl | simp [OpcodeEntry.isIllegal] at h

/-- What a table of rows makes of an opcode byte and operand bytes: it has as its operand bytes the leading ones of those given,
as many as the entry asks for; and it is illegal exactly if the entry is. -/
theorem instr_spec_of_valid {t : IsaTable} (ht : t.Valid) (op b1 b2 : Byte) :
    ((t op).instr op b1 b2).operandBytes = [b1, b2].take (t op).operandCount ∧
      ((t op).isIllegal = true → (t op).instr op b1 b2 = .illegal op) ∧
      ((t op).isIllegal = false → ∀ v, (t op).instr op b1 b2 ≠ .illegal v) := by
  obtain ⟨row, hr⟩ := ht op
  cases hi : (t op).isIllegal with
  | true =>
    have he : t op = .ill := by revert hi; cases t op <;> simp [OpcodeEntry.isIllegal]
    rw [he]
    exact ⟨rfl, fun _ => rfl, fun h => absurd h (by decide)⟩
  | false =>
    refine ⟨?_, fun h => absurd h (by decide), fun _ v hv => ?_⟩
    · rw [instr_of_legal hi op row, hr]
      exact (instrOf_spec row b1 b2).2.2
    · rw [instr_of_legal hi op row, hr] at hv
      have hs := instrOf_spec row b1 b2
      unfold instrOf at hs
      rw [hv] at hs
      obtain rfl : v = row := hs.2.1
      have hl := opcodeEntry_of_illegal v (by simpa [Instr.wellFormed] using hs.1)
      rw [hr, hl] at hi
      exact absurd hi (by decide)

end Sys2Proof.Laws
end

