-- ==== Sys2Proof/Laws/Memory.lean ====
section
/-! SUPPORT. The laws of the stored bytes: a read after a write, and that every memory operation keeps the canonical form. -/

namespace Sys2Proof.Machine

open Sys2Proof

/-! ### Regions (20_memory.md R61) -/

theorem inRange_iff (base size addr : Nat) : inRange base size addr = true ↔ base ≤ addr ∧ addr < base + size := by
  simp [inRange]

theorem region_cases (addr : Word) :
    (region addr = .reg ∧ addr.toNat < 32) ∨ (region addr = .ram ∧ 128 ≤ addr.toNat ∧ addr.toNat < 256) ∨
      (region addr = .rom ∧ 61440 ≤ addr.toNat) ∨
      (region addr = .unmapped ∧ 32 ≤ addr.toNat ∧ (addr.toNat < 128 ∨ 256 ≤ addr.toNat) ∧ addr.toNat < 61440) := by
  have h := addr.isLt
  simp only [region, inRange_iff, regBase, regSize, ramBase, ramSize, romBase, romSize]
  by_cases h1 : addr.toNat < 32
  · rw [if_pos (by omega)]; simp [h1]
  · rw [if_neg (by omega)]
    by_cases h2 : 128 ≤ addr.toNat ∧ addr.toNat < 256
    · rw [if_pos (by omega)]; simp [h2]
    · rw [if_neg (by omega)]
      by_cases h3 : 61440 ≤ addr.toNat
      · rw [if_pos (by omega)]; simp [h3]
      · rw [if_neg (by omega)]; simp; omega

theorem region_reg_iff (addr : Word) : region addr = .reg ↔ addr.toNat < 32 := by
  rcases region_cases addr with h | h | h | h <;> simp [h.1] <;> omega

theorem region_ram_iff (addr : Word) : region addr = .ram ↔ 128 ≤ addr.toNat ∧ addr.toNat < 256 := by
  rcases region_cases addr with h | h | h | h <;> simp [h.1] <;> omega

theorem region_rom_iff (addr : Word) : region addr = .rom ↔ 61440 ≤ addr.toNat := by
  rcases region_cases addr with h | h | h | h <;> simp [h.1] <;> omega

theorem region_unmapped_iff (addr : Word) :
    region addr = .unmapped ↔ 32 ≤ addr.toNat ∧ (addr.toNat < 128 ∨ 256 ≤ addr.toNat) ∧ addr.toNat < 61440 := by
  rcases region_cases addr with h | h | h | h <;> simp [h.1] <;> omega

theorem stores_iff (n : Nat) : stores n = true ↔ (128 ≤ n ∧ n < 256) ∨ (61440 ≤ n ∧ n < 65536) := by
  simp only [stores, Bool.or_eq_true, inRange_iff, ramBase, ramSize, romBase, romSize]

theorem stores_of_ram (addr : Word) (h : region addr = .ram) : stores addr.toNat = true := by
  rw [stores_iff]; have := (region_ram_iff addr).1 h; omega

/-! ### The canonical form -/

theorem Memory.wf_iff (m : Memory) :
    m.wf = true ↔ m.Pairwise (fun p q => p.1 < q.1) ∧ ∀ c ∈ m, stores c.1 = true ∧ c.2 ≠ unlistedByte := by
  simp [Memory.wf]

theorem Memory.wf_nil : Memory.wf [] = true := by
  simp [Memory.wf]

/-- A read of an address below every listed one. -/
theorem Memory.read_of_lt (m : Memory) (addr : Nat) (h : ∀ c ∈ m, addr < c.1) : m.read addr = unlistedByte := by
  induction m with
  | nil => rfl
  | cons c rest ih =>
    have hc := h c (by simp)
    simp only [Memory.read]
    rw [if_neg (by omega)]
    exact ih fun d hd => h d (by simp [hd])

/-- A write leaves every other address alone. -/
theorem Memory.read_write_other (m : Memory) (addr a : Nat) (v : Byte) (h : a ≠ addr) :
    (m.write addr v).read a = m.read a := by
  induction m with
  | nil =>
    simp only [Memory.write]
    split
    · rfl
    · simp only [Memory.read]; rw [if_neg (Ne.symm h)]
  | cons c rest ih =>
    simp only [Memory.write]
    split
    · split
      · rfl
      · rw [Memory.read, if_neg (Ne.symm h)]
    · split
      · rename_i hc
        have hca : ¬ c.1 = a := by rw [← hc]; exact Ne.symm h
        split
        · rw [Memory.read, if_neg hca]
        · rw [Memory.read, Memory.read, if_neg (Ne.symm h), if_neg hca]
      · rw [Memory.read, Memory.read, ih]

/-- A read after a write to the same address gives the value written. -/
theorem Memory.read_write_same (m : Memory) (addr : Nat) (v : Byte) (h : m.Pairwise fun p q => p.1 < q.1) :
    (m.write addr v).read addr = v := by
  induction m with
  | nil =>
    simp only [Memory.write]
    split
    · rename_i hv; rw [hv]; rfl
    · simp [Memory.read]
  | cons c rest ih =>
    rw [List.pairwise_cons] at h
    simp only [Memory.write]
    split
    · rename_i hlt
      split
      · rename_i hv
        rw [hv, Memory.read, if_neg (by omega)]
        exact Memory.read_of_lt rest addr fun d hd => by have := h.1 d hd; omega
      · simp [Memory.read]
    · split
      · rename_i hc
        split
        · rename_i hv
          rw [hv]
          exact Memory.read_of_lt rest addr fun d hd => by have := h.1 d hd; omega
        · simp [Memory.read]
      · rename_i hc
        rw [Memory.read, if_neg (fun he => hc he.symm)]
        exact ih h.2

/-- Every cell after a write is an old cell or the one written. -/
theorem Memory.mem_write (m : Memory) (addr : Nat) (v : Byte) (c : Host.Cell) (h : c ∈ m.write addr v) :
    c ∈ m ∨ (c = (addr, v) ∧ v ≠ unlistedByte) := by
  induction m with
  | nil =>
    simp only [Memory.write] at h
    split at h
    · simp at h
    · simp_all
  | cons d rest ih =>
    simp only [Memory.write] at h
    split at h
    · split at h
      · exact .inl h
      · simp only [List.mem_cons] at h ⊢
        rcases h with h | h
        · exact .inr ⟨h, by assumption⟩
        · exact .inl h
    · split at h
      · split at h
        · exact .inl (List.mem_cons_of_mem _ h)
        · simp only [List.mem_cons] at h ⊢
          rcases h with h | h
          · exact .inr ⟨h, by assumption⟩
          · exact .inl (.inr h)
      · simp only [List.mem_cons] at h ⊢
        rcases h with h | h
        · exact .inl (.inl h)
        · rcases ih h with h | h
          · exact .inl (.inr h)
          · exact .inr h

theorem Memory.pairwise_write (m : Memory) (addr : Nat) (v : Byte) (h : m.Pairwise fun p q => p.1 < q.1) :
    (m.write addr v).Pairwise fun p q => p.1 < q.1 := by
  induction m with
  | nil =>
    simp only [Memory.write]
    split <;> simp
  | cons c rest ih =>
    have hc := List.pairwise_cons.1 h
    simp only [Memory.write]
    split
    · rename_i hlt
      split
      · exact h
      · refine List.pairwise_cons.2 ⟨?_, h⟩
        intro d hd
        rcases List.mem_cons.1 hd with rfl | hd
        · exact hlt
        · have := hc.1 d hd; simp only; omega
    · split
      · rename_i heq
        split
        · exact hc.2
        · refine List.pairwise_cons.2 ⟨?_, hc.2⟩
          intro d hd
          have := hc.1 d hd; simp only; omega
      · refine List.pairwise_cons.2 ⟨?_, ih hc.2⟩
        intro d hd
        rcases Memory.mem_write rest addr v d hd with hd | ⟨rfl, -⟩
        · exact hc.1 d hd
        · simp only; omega

/-- A write to a storing address keeps the canonical form. -/
theorem Memory.wf_write (m : Memory) (addr : Nat) (v : Byte) (h : m.wf = true) (ha : stores addr = true) :
    (m.write addr v).wf = true := by
  rw [Memory.wf_iff] at h ⊢
  refine ⟨Memory.pairwise_write m addr v h.1, fun c hc => ?_⟩
  rcases Memory.mem_write m addr v c hc with hc | ⟨rfl, hv⟩
  · exact h.2 c hc
  · exact ⟨ha, hv⟩

/-- In the canonical form a write is read back. -/
theorem Memory.read_write_of_wf (m : Memory) (addr : Nat) (v : Byte) (h : m.wf = true) :
    (m.write addr v).read addr = v :=
  Memory.read_write_same m addr v ((Memory.wf_iff m).1 h).1

/-! ### Clearing RAM, loading bytes, the image -/

theorem Memory.wf_clearRam (m : Memory) (h : m.wf = true) : m.clearRam.wf = true := by
  rw [Memory.wf_iff] at h ⊢
  exact ⟨h.1.filter _, fun c hc => h.2 c (List.mem_of_mem_filter hc)⟩

/-- Clearing RAM makes its bytes $00 and leaves every other one. -/
theorem Memory.read_clearRam (m : Memory) (a : Nat) :
    m.clearRam.read a = if inRange ramBase ramSize a then unlistedByte else m.read a := by
  unfold Memory.clearRam
  induction m with
  | nil => simp [Memory.read]
  | cons c rest ih =>
    rw [List.filter_cons]
    split
    · rename_i hc
      simp only [Memory.read]
      split
      · rename_i hca
        subst hca
        simp_all
      · exact ih
    · rename_i hc
      rw [ih]
      split
      · rfl
      · rename_i hr
        simp only [Memory.read]
        rw [if_neg]
        intro hca
        subst hca
        simp_all

/-- Loading bytes at storing addresses keeps the canonical form. -/
theorem Memory.wf_load (bytes : List Byte) (addr : Nat) (m : Memory) (h : m.wf = true)
    (ha : ∀ k < bytes.length, stores (addr + k) = true) : (Memory.load bytes addr m).wf = true := by
  induction bytes generalizing addr m with
  | nil => exact h
  | cons v rest ih =>
    rw [Memory.load]
    refine ih _ _ (Memory.wf_write _ _ _ h (by simpa using ha 0 (by simp))) fun k hk => ?_
    have := ha (k + 1) (by simpa using hk)
    rwa [show addr + 1 + k = addr + (k + 1) by omega]

theorem imageCells_bounds (bytes : List Byte) (addr : Nat) :
    ∀ c ∈ imageCells bytes addr, addr ≤ c.1 ∧ c.1 < addr + bytes.length ∧ c.2 ≠ unlistedByte := by
  induction bytes generalizing addr with
  | nil => intro c hc; simp [imageCells] at hc
  | cons v rest ih =>
    intro c hc
    simp only [imageCells] at hc
    simp only [List.length_cons]
    split at hc
    · have := ih (addr + 1) c hc; exact ⟨by omega, by omega, this.2.2⟩
    · rcases List.mem_cons.1 hc with rfl | hc
      · exact ⟨by simp, by simp, by assumption⟩
      · have := ih (addr + 1) c hc; exact ⟨by omega, by omega, this.2.2⟩

/-- The cells of an image are in canonical form. -/
theorem imageCells_wf (bytes : List Byte) (addr : Nat) (ha : ∀ k < bytes.length, stores (addr + k) = true) :
    (imageCells bytes addr).wf = true := by
  rw [Memory.wf_iff]
  constructor
  · clear ha
    induction bytes generalizing addr with
    | nil => simp [imageCells]
    | cons v rest ih =>
      simp only [imageCells]
      split
      · exact ih _
      · refine List.pairwise_cons.2 ⟨fun d hd => ?_, ih _⟩
        have := imageCells_bounds rest (addr + 1) d hd
        simp only; omega
  · intro c hc
    have := imageCells_bounds bytes addr c hc
    refine ⟨?_, this.2.2⟩
    have h2 := ha (c.1 - addr) (by omega)
    rwa [show addr + (c.1 - addr) = c.1 by omega] at h2

/-- The cells of an image read as the image. -/
theorem read_imageCells (bytes : List Byte) (addr k : Nat) :
    (imageCells bytes addr).read (addr + k) = bytes.getD k unlistedByte := by
  induction bytes generalizing addr k with
  | nil => simp [imageCells, Memory.read]
  | cons v rest ih =>
    simp only [imageCells]
    cases k with
    | zero =>
      split
      · rename_i hv
        rw [Memory.read_of_lt]
        · simp [hv]
        · intro c hc; have := imageCells_bounds rest (addr + 1) c hc; omega
      · simp [Memory.read]
    | succ k =>
      have := ih (addr + 1) k
      rw [show addr + 1 + k = addr + (k + 1) by omega] at this
      split
      · rw [this]; simp
      · rw [Memory.read, if_neg (by simp only; omega), this]; simp

/-- The memory of the reset state is in canonical form. -/
theorem reset_mem_wf : State.reset.mem.wf = true := by
  simp [State.reset, Memory.wf_nil]

end Sys2Proof.Machine
end

