-- ==== Sys2Proof/Laws/State.lean ====
section
/-! SUPPORT. One lemma per field per named update of the state, so that no proof unfolds a record update. -/

namespace Sys2Proof.Machine

open Sys2Proof

/-! ### The switches of the chip's alternatives, off (90_conflicts.md C6, C7) -/

@[simp] theorem hasTof_eq : hasTof = false := rfl
@[simp] theorem cliDelay_eq : cliDelay = false := rfl
@[simp] theorem Timer.finishOverflow_eq (t : Timer) : t.finishOverflow = t := rfl
@[simp] theorem Timer.overflowIrq_eq (t : Timer) : t.overflowIrq = false := rfl
theorem Timer.tcsr_eq (t : Timer) : t.tcsr = 0b0#1 ++ BitVec.ofBool t.ocf ++ 0b0#1 ++ t.tcsrLo := rfl
theorem Timer.arm_eq (t : Timer) : t.arm = { t with ocfArmed := t.ocfArmed || t.ocf } := rfl
theorem Timer.tickOnce_eq (t : Timer) :
    t.tickOnce = { t with counter := t.counter + 1, ocf := t.ocf || t.counter + 1 == t.ocr } := rfl

/-! ### The default parameters -/

@[simp] theorem Params.default_isaTable : Params.default.isaTable = opcodeEntry := rfl
@[simp] theorem Params.default_opcodeCycles : Params.default.opcodeCycles = defaultOpcodeCycles := rfl
@[simp] theorem Params.default_dispatchCycles : Params.default.dispatchCycles = 12 := rfl
@[simp] theorem Params.default_waiExitCycles : Params.default.waiExitCycles = 4 := rfl
@[simp] theorem Params.default_idleCycles : Params.default.idleCycles = 1 := rfl
@[simp] theorem Params.default_overrunPolicy : Params.default.overrunPolicy = .preserve := rfl

/-! ### `State.setCcr` -/

@[simp] theorem State.setCcr_a (s : State) (cc : Ccr) : (s.setCcr cc).a = s.a := rfl
@[simp] theorem State.setCcr_b (s : State) (cc : Ccr) : (s.setCcr cc).b = s.b := rfl
@[simp] theorem State.setCcr_x (s : State) (cc : Ccr) : (s.setCcr cc).x = s.x := rfl
@[simp] theorem State.setCcr_sp (s : State) (cc : Ccr) : (s.setCcr cc).sp = s.sp := rfl
@[simp] theorem State.setCcr_pc (s : State) (cc : Ccr) : (s.setCcr cc).pc = s.pc := rfl
@[simp] theorem State.setCcr_ccr (s : State) (cc : Ccr) : (s.setCcr cc).ccr = cc := rfl
@[simp] theorem State.setCcr_mem (s : State) (cc : Ccr) : (s.setCcr cc).mem = s.mem := rfl
@[simp] theorem State.setCcr_timer (s : State) (cc : Ccr) : (s.setCcr cc).timer = s.timer := rfl
@[simp] theorem State.setCcr_serial (s : State) (cc : Ccr) : (s.setCcr cc).serial = s.serial := rfl
@[simp] theorem State.setCcr_cyclesTotal (s : State) (cc : Ccr) : (s.setCcr cc).cyclesTotal = s.cyclesTotal := rfl
@[simp] theorem State.setCcr_crashed (s : State) (cc : Ccr) : (s.setCcr cc).crashed = s.crashed := rfl
@[simp] theorem State.setCcr_pauseReq (s : State) (cc : Ccr) : (s.setCcr cc).pauseReq = s.pauseReq := rfl
@[simp] theorem State.setCcr_paused (s : State) (cc : Ccr) : (s.setCcr cc).paused = s.paused := rfl
@[simp] theorem State.setCcr_waitState (s : State) (cc : Ccr) : (s.setCcr cc).waitState = s.waitState := rfl
@[simp] theorem State.setCcr_cliShadow (s : State) (cc : Ccr) : (s.setCcr cc).cliShadow = s.cliShadow := rfl
@[simp] theorem State.setCcr_phase (s : State) (cc : Ccr) : (s.setCcr cc).phase = s.phase := rfl
@[simp] theorem State.setCcr_draws (s : State) (cc : Ccr) : (s.setCcr cc).draws = s.draws := rfl
@[simp] theorem State.setCcr_portEvents (s : State) (cc : Ccr) : (s.setCcr cc).portEvents = s.portEvents := rfl

/-! ### `State.advance` -/

@[simp] theorem State.advance_a (s : State) (n : Nat) : (s.advance n).a = s.a := rfl
@[simp] theorem State.advance_b (s : State) (n : Nat) : (s.advance n).b = s.b := rfl
@[simp] theorem State.advance_x (s : State) (n : Nat) : (s.advance n).x = s.x := rfl
@[simp] theorem State.advance_sp (s : State) (n : Nat) : (s.advance n).sp = s.sp := rfl
@[simp] theorem State.advance_pc (s : State) (n : Nat) : (s.advance n).pc = s.pc + BitVec.ofNat 16 n := rfl
@[simp] theorem State.advance_ccr (s : State) (n : Nat) : (s.advance n).ccr = s.ccr := rfl
@[simp] theorem State.advance_mem (s : State) (n : Nat) : (s.advance n).mem = s.mem := rfl
@[simp] theorem State.advance_timer (s : State) (n : Nat) : (s.advance n).timer = s.timer := rfl
@[simp] theorem State.advance_serial (s : State) (n : Nat) : (s.advance n).serial = s.serial := rfl
@[simp] theorem State.advance_cyclesTotal (s : State) (n : Nat) : (s.advance n).cyclesTotal = s.cyclesTotal := rfl
@[simp] theorem State.advance_crashed (s : State) (n : Nat) : (s.advance n).crashed = s.crashed := rfl
@[simp] theorem State.advance_pauseReq (s : State) (n : Nat) : (s.advance n).pauseReq = s.pauseReq := rfl
@[simp] theorem State.advance_paused (s : State) (n : Nat) : (s.advance n).paused = s.paused := rfl
@[simp] theorem State.advance_waitState (s : State) (n : Nat) : (s.advance n).waitState = s.waitState := rfl
@[simp] theorem State.advance_cliShadow (s : State) (n : Nat) : (s.advance n).cliShadow = s.cliShadow := rfl
@[simp] theorem State.advance_phase (s : State) (n : Nat) : (s.advance n).phase = s.phase := rfl
@[simp] theorem State.advance_draws (s : State) (n : Nat) : (s.advance n).draws = s.draws := rfl
@[simp] theorem State.advance_portEvents (s : State) (n : Nat) : (s.advance n).portEvents = s.portEvents := rfl

/-! ### `State.jump` -/

@[simp] theorem State.jump_a (s : State) (target : Word) : (s.jump target).a = s.a := rfl
@[simp] theorem State.jump_b (s : State) (target : Word) : (s.jump target).b = s.b := rfl
@[simp] theorem State.jump_x (s : State) (target : Word) : (s.jump target).x = s.x := rfl
@[simp] theorem State.jump_sp (s : State) (target : Word) : (s.jump target).sp = s.sp := rfl
@[simp] theorem State.jump_pc (s : State) (target : Word) : (s.jump target).pc = target := rfl
@[simp] theorem State.jump_ccr (s : State) (target : Word) : (s.jump target).ccr = s.ccr := rfl
@[simp] theorem State.jump_mem (s : State) (target : Word) : (s.jump target).mem = s.mem := rfl
@[simp] theorem State.jump_timer (s : State) (target : Word) : (s.jump target).timer = s.timer := rfl
@[simp] theorem State.jump_serial (s : State) (target : Word) : (s.jump target).serial = s.serial := rfl
@[simp] theorem State.jump_cyclesTotal (s : State) (target : Word) :
    (s.jump target).cyclesTotal = s.cyclesTotal := rfl
@[simp] theorem State.jump_crashed (s : State) (target : Word) : (s.jump target).crashed = s.crashed := rfl
@[simp] theorem State.jump_pauseReq (s : State) (target : Word) : (s.jump target).pauseReq = s.pauseReq := rfl
@[simp] theorem State.jump_paused (s : State) (target : Word) : (s.jump target).paused = s.paused := rfl
@[simp] theorem State.jump_waitState (s : State) (target : Word) : (s.jump target).waitState = s.waitState := rfl
@[simp] theorem State.jump_cliShadow (s : State) (target : Word) : (s.jump target).cliShadow = s.cliShadow := rfl
@[simp] theorem State.jump_phase (s : State) (target : Word) : (s.jump target).phase = s.phase := rfl
@[simp] theorem State.jump_draws (s : State) (target : Word) : (s.jump target).draws = s.draws := rfl
@[simp] theorem State.jump_portEvents (s : State) (target : Word) : (s.jump target).portEvents = s.portEvents := rfl

/-! ### `State.setD` -/

@[simp] theorem State.setD_a (s : State) (v : Word) : (s.setD v).a = v.extractLsb' 8 8 := rfl
@[simp] theorem State.setD_b (s : State) (v : Word) : (s.setD v).b = v.extractLsb' 0 8 := rfl
@[simp] theorem State.setD_x (s : State) (v : Word) : (s.setD v).x = s.x := rfl
@[simp] theorem State.setD_sp (s : State) (v : Word) : (s.setD v).sp = s.sp := rfl
@[simp] theorem State.setD_pc (s : State) (v : Word) : (s.setD v).pc = s.pc := rfl
@[simp] theorem State.setD_ccr (s : State) (v : Word) : (s.setD v).ccr = s.ccr := rfl
@[simp] theorem State.setD_mem (s : State) (v : Word) : (s.setD v).mem = s.mem := rfl
@[simp] theorem State.setD_timer (s : State) (v : Word) : (s.setD v).timer = s.timer := rfl
@[simp] theorem State.setD_serial (s : State) (v : Word) : (s.setD v).serial = s.serial := rfl
@[simp] theorem State.setD_cyclesTotal (s : State) (v : Word) : (s.setD v).cyclesTotal = s.cyclesTotal := rfl
@[simp] theorem State.setD_crashed (s : State) (v : Word) : (s.setD v).crashed = s.crashed := rfl
@[simp] theorem State.setD_pauseReq (s : State) (v : Word) : (s.setD v).pauseReq = s.pauseReq := rfl
@[simp] theorem State.setD_paused (s : State) (v : Word) : (s.setD v).paused = s.paused := rfl
@[simp] theorem State.setD_waitState (s : State) (v : Word) : (s.setD v).waitState = s.waitState := rfl
@[simp] theorem State.setD_cliShadow (s : State) (v : Word) : (s.setD v).cliShadow = s.cliShadow := rfl
@[simp] theorem State.setD_phase (s : State) (v : Word) : (s.setD v).phase = s.phase := rfl
@[simp] theorem State.setD_draws (s : State) (v : Word) : (s.setD v).draws = s.draws := rfl
@[simp] theorem State.setD_portEvents (s : State) (v : Word) : (s.setD v).portEvents = s.portEvents := rfl

/-! ### `State.tick` -/

@[simp] theorem State.tick_a (s : State) (n : Nat) : (s.tick n).a = s.a := rfl
@[simp] theorem State.tick_b (s : State) (n : Nat) : (s.tick n).b = s.b := rfl
@[simp] theorem State.tick_x (s : State) (n : Nat) : (s.tick n).x = s.x := rfl
@[simp] theorem State.tick_sp (s : State) (n : Nat) : (s.tick n).sp = s.sp := rfl
@[simp] theorem State.tick_pc (s : State) (n : Nat) : (s.tick n).pc = s.pc := rfl
@[simp] theorem State.tick_ccr (s : State) (n : Nat) : (s.tick n).ccr = s.ccr := rfl
@[simp] theorem State.tick_mem (s : State) (n : Nat) : (s.tick n).mem = s.mem := rfl
@[simp] theorem State.tick_timer (s : State) (n : Nat) : (s.tick n).timer = s.timer.tick n := rfl
@[simp] theorem State.tick_serial (s : State) (n : Nat) : (s.tick n).serial = s.serial := rfl
@[simp] theorem State.tick_cyclesTotal (s : State) (n : Nat) : (s.tick n).cyclesTotal = s.cyclesTotal := rfl
@[simp] theorem State.tick_crashed (s : State) (n : Nat) : (s.tick n).crashed = s.crashed := rfl
@[simp] theorem State.tick_pauseReq (s : State) (n : Nat) : (s.tick n).pauseReq = s.pauseReq := rfl
@[simp] theorem State.tick_paused (s : State) (n : Nat) : (s.tick n).paused = s.paused := rfl
@[simp] theorem State.tick_waitState (s : State) (n : Nat) : (s.tick n).waitState = s.waitState := rfl
@[simp] theorem State.tick_cliShadow (s : State) (n : Nat) : (s.tick n).cliShadow = s.cliShadow := rfl
@[simp] theorem State.tick_phase (s : State) (n : Nat) : (s.tick n).phase = s.phase := rfl
@[simp] theorem State.tick_draws (s : State) (n : Nat) : (s.tick n).draws = s.draws := rfl
@[simp] theorem State.tick_portEvents (s : State) (n : Nat) : (s.tick n).portEvents = s.portEvents := rfl

/-! ### `State.drawByte` -/

@[simp] theorem State.drawByte_a (s : State) : (s.drawByte.2).a = s.a := rfl
@[simp] theorem State.drawByte_b (s : State) : (s.drawByte.2).b = s.b := rfl
@[simp] theorem State.drawByte_x (s : State) : (s.drawByte.2).x = s.x := rfl
@[simp] theorem State.drawByte_sp (s : State) : (s.drawByte.2).sp = s.sp := rfl
@[simp] theorem State.drawByte_pc (s : State) : (s.drawByte.2).pc = s.pc := rfl
@[simp] theorem State.drawByte_ccr (s : State) : (s.drawByte.2).ccr = s.ccr := rfl
@[simp] theorem State.drawByte_mem (s : State) : (s.drawByte.2).mem = s.mem := rfl
@[simp] theorem State.drawByte_timer (s : State) : (s.drawByte.2).timer = s.timer := rfl
@[simp] theorem State.drawByte_serial (s : State) : (s.drawByte.2).serial = s.serial := rfl
@[simp] theorem State.drawByte_cyclesTotal (s : State) : (s.drawByte.2).cyclesTotal = s.cyclesTotal := rfl
@[simp] theorem State.drawByte_crashed (s : State) : (s.drawByte.2).crashed = s.crashed := rfl
@[simp] theorem State.drawByte_pauseReq (s : State) : (s.drawByte.2).pauseReq = s.pauseReq := rfl
@[simp] theorem State.drawByte_paused (s : State) : (s.drawByte.2).paused = s.paused := rfl
@[simp] theorem State.drawByte_waitState (s : State) : (s.drawByte.2).waitState = s.waitState := rfl
@[simp] theorem State.drawByte_cliShadow (s : State) : (s.drawByte.2).cliShadow = s.cliShadow := rfl
@[simp] theorem State.drawByte_phase (s : State) : (s.drawByte.2).phase = s.phase := rfl
@[simp] theorem State.drawByte_draws (s : State) : (s.drawByte.2).draws = s.draws + 1 := rfl
@[simp] theorem State.drawByte_portEvents (s : State) : (s.drawByte.2).portEvents = s.portEvents := rfl

/-! ### `State.drawWord` -/

@[simp] theorem State.drawWord_a (s : State) : (s.drawWord.2).a = s.a := rfl
@[simp] theorem State.drawWord_b (s : State) : (s.drawWord.2).b = s.b := rfl
@[simp] theorem State.drawWord_x (s : State) : (s.drawWord.2).x = s.x := rfl
@[simp] theorem State.drawWord_sp (s : State) : (s.drawWord.2).sp = s.sp := rfl
@[simp] theorem State.drawWord_pc (s : State) : (s.drawWord.2).pc = s.pc := rfl
@[simp] theorem State.drawWord_ccr (s : State) : (s.drawWord.2).ccr = s.ccr := rfl
@[simp] theorem State.drawWord_mem (s : State) : (s.drawWord.2).mem = s.mem := rfl
@[simp] theorem State.drawWord_timer (s : State) : (s.drawWord.2).timer = s.timer := rfl
@[simp] theorem State.drawWord_serial (s : State) : (s.drawWord.2).serial = s.serial := rfl
@[simp] theorem State.drawWord_cyclesTotal (s : State) : (s.drawWord.2).cyclesTotal = s.cyclesTotal := rfl
@[simp] theorem State.drawWord_crashed (s : State) : (s.drawWord.2).crashed = s.crashed := rfl
@[simp] theorem State.drawWord_pauseReq (s : State) : (s.drawWord.2).pauseReq = s.pauseReq := rfl
@[simp] theorem State.drawWord_paused (s : State) : (s.drawWord.2).paused = s.paused := rfl
@[simp] theorem State.drawWord_waitState (s : State) : (s.drawWord.2).waitState = s.waitState := rfl
@[simp] theorem State.drawWord_cliShadow (s : State) : (s.drawWord.2).cliShadow = s.cliShadow := rfl
@[simp] theorem State.drawWord_phase (s : State) : (s.drawWord.2).phase = s.phase := rfl
@[simp] theorem State.drawWord_draws (s : State) : (s.drawWord.2).draws = s.draws + 1 := rfl
@[simp] theorem State.drawWord_portEvents (s : State) : (s.drawWord.2).portEvents = s.portEvents := rfl

/-! ### `State.drawBit` -/

@[simp] theorem State.drawBit_a (s : State) : (s.drawBit.2).a = s.a := rfl
@[simp] theorem State.drawBit_b (s : State) : (s.drawBit.2).b = s.b := rfl
@[simp] theorem State.drawBit_x (s : State) : (s.drawBit.2).x = s.x := rfl
@[simp] theorem State.drawBit_sp (s : State) : (s.drawBit.2).sp = s.sp := rfl
@[simp] theorem State.drawBit_pc (s : State) : (s.drawBit.2).pc = s.pc := rfl
@[simp] theorem State.drawBit_ccr (s : State) : (s.drawBit.2).ccr = s.ccr := rfl
@[simp] theorem State.drawBit_mem (s : State) : (s.drawBit.2).mem = s.mem := rfl
@[simp] theorem State.drawBit_timer (s : State) : (s.drawBit.2).timer = s.timer := rfl
@[simp] theorem State.drawBit_serial (s : State) : (s.drawBit.2).serial = s.serial := rfl
@[simp] theorem State.drawBit_cyclesTotal (s : State) : (s.drawBit.2).cyclesTotal = s.cyclesTotal := rfl
@[simp] theorem State.drawBit_crashed (s : State) : (s.drawBit.2).crashed = s.crashed := rfl
@[simp] theorem State.drawBit_pauseReq (s : State) : (s.drawBit.2).pauseReq = s.pauseReq := rfl
@[simp] theorem State.drawBit_paused (s : State) : (s.drawBit.2).paused = s.paused := rfl
@[simp] theorem State.drawBit_waitState (s : State) : (s.drawBit.2).waitState = s.waitState := rfl
@[simp] theorem State.drawBit_cliShadow (s : State) : (s.drawBit.2).cliShadow = s.cliShadow := rfl
@[simp] theorem State.drawBit_phase (s : State) : (s.drawBit.2).phase = s.phase := rfl
@[simp] theorem State.drawBit_draws (s : State) : (s.drawBit.2).draws = s.draws + 1 := rfl
@[simp] theorem State.drawBit_portEvents (s : State) : (s.drawBit.2).portEvents = s.portEvents := rfl

/-! ### `State.drawPhase` -/

@[simp] theorem State.drawPhase_a (s : State) : (s.drawPhase.2).a = s.a := rfl
@[simp] theorem State.drawPhase_b (s : State) : (s.drawPhase.2).b = s.b := rfl
@[simp] theorem State.drawPhase_x (s : State) : (s.drawPhase.2).x = s.x := rfl
@[simp] theorem State.drawPhase_sp (s : State) : (s.drawPhase.2).sp = s.sp := rfl
@[simp] theorem State.drawPhase_pc (s : State) : (s.drawPhase.2).pc = s.pc := rfl
@[simp] theorem State.drawPhase_ccr (s : State) : (s.drawPhase.2).ccr = s.ccr := rfl
@[simp] theorem State.drawPhase_mem (s : State) : (s.drawPhase.2).mem = s.mem := rfl
@[simp] theorem State.drawPhase_timer (s : State) : (s.drawPhase.2).timer = s.timer := rfl
@[simp] theorem State.drawPhase_serial (s : State) : (s.drawPhase.2).serial = s.serial := rfl
@[simp] theorem State.drawPhase_cyclesTotal (s : State) : (s.drawPhase.2).cyclesTotal = s.cyclesTotal := rfl
@[simp] theorem State.drawPhase_crashed (s : State) : (s.drawPhase.2).crashed = s.crashed := rfl
@[simp] theorem State.drawPhase_pauseReq (s : State) : (s.drawPhase.2).pauseReq = s.pauseReq := rfl
@[simp] theorem State.drawPhase_paused (s : State) : (s.drawPhase.2).paused = s.paused := rfl
@[simp] theorem State.drawPhase_waitState (s : State) : (s.drawPhase.2).waitState = s.waitState := rfl
@[simp] theorem State.drawPhase_cliShadow (s : State) : (s.drawPhase.2).cliShadow = s.cliShadow := rfl
@[simp] theorem State.drawPhase_phase (s : State) : (s.drawPhase.2).phase = s.phase := rfl
@[simp] theorem State.drawPhase_draws (s : State) : (s.drawPhase.2).draws = s.draws + 1 := rfl
@[simp] theorem State.drawPhase_portEvents (s : State) : (s.drawPhase.2).portEvents = s.portEvents := rfl

/-! ### `State.setAcc` -/

@[simp] theorem State.setAcc_a_a (s : State) (v : Byte) : (s.setAcc .a v).a = v := rfl
@[simp] theorem State.setAcc_b_a (s : State) (v : Byte) : (s.setAcc .b v).a = s.a := rfl
@[simp] theorem State.setAcc_a_b (s : State) (v : Byte) : (s.setAcc .a v).b = s.b := rfl
@[simp] theorem State.setAcc_b_b (s : State) (v : Byte) : (s.setAcc .b v).b = v := rfl
@[simp] theorem State.setAcc_x (s : State) (r : Acc) (v : Byte) : (s.setAcc r v).x = s.x := by cases r <;> rfl
@[simp] theorem State.setAcc_sp (s : State) (r : Acc) (v : Byte) : (s.setAcc r v).sp = s.sp := by cases r <;> rfl
@[simp] theorem State.setAcc_pc (s : State) (r : Acc) (v : Byte) : (s.setAcc r v).pc = s.pc := by cases r <;> rfl
@[simp] theorem State.setAcc_ccr (s : State) (r : Acc) (v : Byte) : (s.setAcc r v).ccr = s.ccr := by cases r <;> rfl
@[simp] theorem State.setAcc_mem (s : State) (r : Acc) (v : Byte) : (s.setAcc r v).mem = s.mem := by cases r <;> rfl
@[simp] theorem State.setAcc_timer (s : State) (r : Acc) (v : Byte) :
    (s.setAcc r v).timer = s.timer := by cases r <;> rfl
@[simp] theorem State.setAcc_serial (s : State) (r : Acc) (v : Byte) :
    (s.setAcc r v).serial = s.serial := by cases r <;> rfl
@[simp] theorem State.setAcc_cyclesTotal (s : State) (r : Acc) (v : Byte) :
    (s.setAcc r v).cyclesTotal = s.cyclesTotal := by cases r <;> rfl
@[simp] theorem State.setAcc_crashed (s : State) (r : Acc) (v : Byte) :
    (s.setAcc r v).crashed = s.crashed := by cases r <;> rfl
@[simp] theorem State.setAcc_pauseReq (s : State) (r : Acc) (v : Byte) :
    (s.setAcc r v).pauseReq = s.pauseReq := by cases r <;> rfl
@[simp] theorem State.setAcc_paused (s : State) (r : Acc) (v : Byte) :
    (s.setAcc r v).paused = s.paused := by cases r <;> rfl
@[simp] theorem State.setAcc_waitState (s : State) (r : Acc) (v : Byte) :
    (s.setAcc r v).waitState = s.waitState := by cases r <;> rfl
@[simp] theorem State.setAcc_cliShadow (s : State) (r : Acc) (v : Byte) :
    (s.setAcc r v).cliShadow = s.cliShadow := by cases r <;> rfl
@[simp] theorem State.setAcc_phase (s : State) (r : Acc) (v : Byte) :
    (s.setAcc r v).phase = s.phase := by cases r <;> rfl
@[simp] theorem State.setAcc_draws (s : State) (r : Acc) (v : Byte) :
    (s.setAcc r v).draws = s.draws := by cases r <;> rfl
@[simp] theorem State.setAcc_portEvents (s : State) (r : Acc) (v : Byte) :
    (s.setAcc r v).portEvents = s.portEvents := by cases r <;> rfl
@[simp] theorem State.setAcc_acc (s : State) (r : Acc) (v : Byte) : (s.setAcc r v).acc r = v := by cases r <;> rfl

/-! ### `State.setReg16` -/

@[simp] theorem State.setReg16_x_a (s : State) (v : Word) : (s.setReg16 .x v).a = s.a := rfl
@[simp] theorem State.setReg16_sp_a (s : State) (v : Word) : (s.setReg16 .sp v).a = s.a := rfl
@[simp] theorem State.setReg16_d_a (s : State) (v : Word) : (s.setReg16 .d v).a = v.extractLsb' 8 8 := rfl
@[simp] theorem State.setReg16_x_b (s : State) (v : Word) : (s.setReg16 .x v).b = s.b := rfl
@[simp] theorem State.setReg16_sp_b (s : State) (v : Word) : (s.setReg16 .sp v).b = s.b := rfl
@[simp] theorem State.setReg16_d_b (s : State) (v : Word) : (s.setReg16 .d v).b = v.extractLsb' 0 8 := rfl
@[simp] theorem State.setReg16_d_x (s : State) (v : Word) : (s.setReg16 .d v).x = s.x := rfl
@[simp] theorem State.setReg16_x_x (s : State) (v : Word) : (s.setReg16 .x v).x = v := rfl
@[simp] theorem State.setReg16_sp_x (s : State) (v : Word) : (s.setReg16 .sp v).x = s.x := rfl
@[simp] theorem State.setReg16_d_sp (s : State) (v : Word) : (s.setReg16 .d v).sp = s.sp := rfl
@[simp] theorem State.setReg16_x_sp (s : State) (v : Word) : (s.setReg16 .x v).sp = s.sp := rfl
@[simp] theorem State.setReg16_sp_sp (s : State) (v : Word) : (s.setReg16 .sp v).sp = v := rfl
@[simp] theorem State.setReg16_pc (s : State) (r : Reg16) (v : Word) :
    (s.setReg16 r v).pc = s.pc := by cases r <;> rfl
@[simp] theorem State.setReg16_ccr (s : State) (r : Reg16) (v : Word) :
    (s.setReg16 r v).ccr = s.ccr := by cases r <;> rfl
@[simp] theorem State.setReg16_mem (s : State) (r : Reg16) (v : Word) :
    (s.setReg16 r v).mem = s.mem := by cases r <;> rfl
@[simp] theorem State.setReg16_timer (s : State) (r : Reg16) (v : Word) :
    (s.setReg16 r v).timer = s.timer := by cases r <;> rfl
@[simp] theorem State.setReg16_serial (s : State) (r : Reg16) (v : Word) :
    (s.setReg16 r v).serial = s.serial := by cases r <;> rfl
@[simp] theorem State.setReg16_cyclesTotal (s : State) (r : Reg16) (v : Word) :
    (s.setReg16 r v).cyclesTotal = s.cyclesTotal := by cases r <;> rfl
@[simp] theorem State.setReg16_crashed (s : State) (r : Reg16) (v : Word) :
    (s.setReg16 r v).crashed = s.crashed := by cases r <;> rfl
@[simp] theorem State.setReg16_pauseReq (s : State) (r : Reg16) (v : Word) :
    (s.setReg16 r v).pauseReq = s.pauseReq := by cases r <;> rfl
@[simp] theorem State.setReg16_paused (s : State) (r : Reg16) (v : Word) :
    (s.setReg16 r v).paused = s.paused := by cases r <;> rfl
@[simp] theorem State.setReg16_waitState (s : State) (r : Reg16) (v : Word) :
    (s.setReg16 r v).waitState = s.waitState := by cases r <;> rfl
@[simp] theorem State.setReg16_cliShadow (s : State) (r : Reg16) (v : Word) :
    (s.setReg16 r v).cliShadow = s.cliShadow := by cases r <;> rfl
@[simp] theorem State.setReg16_phase (s : State) (r : Reg16) (v : Word) :
    (s.setReg16 r v).phase = s.phase := by cases r <;> rfl
@[simp] theorem State.setReg16_draws (s : State) (r : Reg16) (v : Word) :
    (s.setReg16 r v).draws = s.draws := by cases r <;> rfl
@[simp] theorem State.setReg16_portEvents (s : State) (r : Reg16) (v : Word) :
    (s.setReg16 r v).portEvents = s.portEvents := by cases r <;> rfl

end Sys2Proof.Machine
end

