-- ==== Sys2Proof/Laws/Ops.lean ====
section
/-! SUPPORT. What each shared operation of Machine/Ops.lean can do, said once: byte and word accesses, the stack, the frame.
The vocabulary is `State.withBus`: the registers of one state over the memory and the peripherals of another. -/

namespace Sys2Proof.Machine

open Sys2Proof

/-- `c` with all that an access can reach taken from `s`: stored bytes, peripherals, PORT events, arbitrary values. -/
def State.withBus (c s : State) : State :=
  { c with mem := s.mem, timer := s.timer, serial := s.serial, portEvents := s.portEvents, draws := s.draws }

@[simp] theorem State.withBus_a (c s : State) : (c.withBus s).a = c.a := rfl
@[simp] theorem State.withBus_b (c s : State) : (c.withBus s).b = c.b := rfl
@[simp] theorem State.withBus_x (c s : State) : (c.withBus s).x = c.x := rfl
@[simp] theorem State.withBus_sp (c s : State) : (c.withBus s).sp = c.sp := rfl
@[simp] theorem State.withBus_pc (c s : State) : (c.withBus s).pc = c.pc := rfl
@[simp] theorem State.withBus_ccr (c s : State) : (c.withBus s).ccr = c.ccr := rfl
@[simp] theorem State.withBus_crashed (c s : State) : (c.withBus s).crashed = c.crashed := rfl
@[simp] theorem State.withBus_waitState (c s : State) : (c.withBus s).waitState = c.waitState := rfl
@[simp] theorem State.withBus_cliShadow (c s : State) : (c.withBus s).cliShadow = c.cliShadow := rfl
@[simp] theorem State.withBus_phase (c s : State) : (c.withBus s).phase = c.phase := rfl
@[simp] theorem State.withBus_pauseReq (c s : State) : (c.withBus s).pauseReq = c.pauseReq := rfl
@[simp] theorem State.withBus_paused (c s : State) : (c.withBus s).paused = c.paused := rfl
@[simp] theorem State.withBus_cyclesTotal (c s : State) : (c.withBus s).cyclesTotal = c.cyclesTotal := rfl
@[simp] theorem State.withBus_mem (c s : State) : (c.withBus s).mem = s.mem := rfl
@[simp] theorem State.withBus_timer (c s : State) : (c.withBus s).timer = s.timer := rfl
@[simp] theorem State.withBus_serial (c s : State) : (c.withBus s).serial = s.serial := rfl
@[simp] theorem State.withBus_portEvents (c s : State) : (c.withBus s).portEvents = s.portEvents := rfl
@[simp] theorem State.withBus_draws (c s : State) : (c.withBus s).draws = s.draws := rfl
@[simp] theorem State.withBus_self (s : State) : s.withBus s = s := rfl
@[simp] theorem State.withBus_withBus (c s t : State) : (c.withBus s).withBus t = c.withBus t := rfl
@[simp] theorem State.withBus_of_withBus (c d s : State) : c.withBus (d.withBus s) = c.withBus s := rfl

/-- A state that agrees with `c` on every register is `c` over its own bus. -/
theorem State.eq_withBus {c t : State} (h0 : t.a = c.a) (h1 : t.b = c.b) (h2 : t.x = c.x) (h3 : t.sp = c.sp) (h4
    : t.pc = c.pc) (h5 : t.ccr = c.ccr) (h6 : t.crashed = c.crashed) (h7 : t.waitState = c.waitState) (h8 : t.phase
    = c.phase) (h9 : t.pauseReq = c.pauseReq) (h10 : t.paused = c.paused) (h11 : t.cyclesTotal = c.cyclesTotal)
    (h12 : t.cliShadow = c.cliShadow) : t
    = c.withBus t := by
  cases t; cases c; simp_all [State.withBus]

/-- Over one bus, only the registers count. -/
theorem State.withBus_congr {c d : State} (s : State) (h0 : c.a = d.a) (h1 : c.b = d.b) (h2 : c.x = d.x) (h3 :
    c.sp = d.sp) (h4 : c.pc = d.pc) (h5 : c.ccr = d.ccr) (h6 : c.crashed = d.crashed) (h7 : c.waitState =
    d.waitState) (h8 : c.phase = d.phase) (h9 : c.pauseReq = d.pauseReq) (h10 : c.paused = d.paused) (h11 :
    c.cyclesTotal = d.cyclesTotal) (h12 : c.cliShadow = d.cliShadow) : c.withBus s = d.withBus s := by
  cases c; cases d; simp_all [State.withBus]

/-! ### Reading a byte (20_memory.md R62) -/

theorem memRead_ram (addr : Word) (s : State) (h : region addr = .ram) :
    memRead addr s = (s.mem.read addr.toNat, s) := by
  simp [memRead, h]

theorem memRead_rom (addr : Word) (s : State) (h : region addr = .rom) :
    memRead addr s = (s.mem.read addr.toNat, s) := by
  simp [memRead, h]

theorem memRead_unmapped (addr : Word) (s : State) (h : region addr = .unmapped) : memRead addr s = s.drawByte := by
  simp [memRead, h]

theorem memRead_reg (addr : Word) (s : State) (h : region addr = .reg) : memRead addr s = regRead addr s := by
  simp [memRead, h]

/-- What a read can change: a read of TCSR arms the clear of OCF, a read of RDR clears RDRF and ORFE, an open address draws
a value. Nothing else. -/
theorem memRead_state (addr : Word) (s : State) :
    ∃ n, (memRead addr s).2 = { s with
      timer := if addr = 0x08#16 then s.timer.arm else s.timer
      serial := if addr = 0x12#16 then s.serial.afterRdrRead else s.serial
      draws := n } := by
  rcases region_cases addr with h | h | h | h
  · rw [memRead_reg _ _ h.1]
    unfold regRead
    split
    case h_8 h1 h2 h3 h4 h5 h6 h7 =>
      refine ⟨s.draws + 1, ?_⟩
      rw [if_neg (fun e => h1 (by simp [e])), if_neg (fun e => h7 (by simp [e]))]
      rfl
    all_goals
      rename_i e
      refine ⟨s.draws, ?_⟩
      have e' : addr = BitVec.ofNat 16 addr.toNat := by simp
      rw [e] at e'
      subst e'
      rfl
  · rw [memRead_ram _ _ h.1]
    refine ⟨s.draws, ?_⟩
    rw [if_neg (fun e => by subst e; simp at h), if_neg (fun e => by subst e; simp at h)]
  · rw [memRead_rom _ _ h.1]
    refine ⟨s.draws, ?_⟩
    rw [if_neg (fun e => by subst e; simp at h), if_neg (fun e => by subst e; simp at h)]
  · rw [memRead_unmapped _ _ h.1]
    refine ⟨s.draws + 1, ?_⟩
    rw [if_neg (fun e => by subst e; simp at h), if_neg (fun e => by subst e; simp at h)]
    rfl

theorem memRead_frame (addr : Word) (s : State) : (memRead addr s).2 = s.withBus (memRead addr s).2 := by
  obtain ⟨n, h⟩ := memRead_state addr s
  rw [h]; rfl

@[simp] theorem memRead_mem (addr : Word) (s : State) : (memRead addr s).2.mem = s.mem := by
  obtain ⟨n, h⟩ := memRead_state addr s
  rw [h]

@[simp] theorem memRead_portEvents (addr : Word) (s : State) : (memRead addr s).2.portEvents = s.portEvents := by
  obtain ⟨n, h⟩ := memRead_state addr s
  rw [h]

/-- A read looks at the bus alone: over other registers it reads the same. -/
theorem memRead_withBus (addr : Word) (c s : State) :
    memRead addr (c.withBus s) = ((memRead addr s).1, c.withBus (memRead addr s).2) := by
  unfold memRead
  cases region addr with
  | reg =>
    simp only
    unfold regRead
    split <;> rfl
  | ram => rfl
  | rom => rfl
  | unmapped => rfl

/-! ### Writing a byte (20_memory.md R63) -/

theorem memWrite_ram (addr : Word) (v : Byte) (s : State) (h : region addr = .ram) :
    memWrite addr v s = { s with mem := s.mem.write addr.toNat v } := by
  simp [memWrite, h]

theorem memWrite_rom (addr : Word) (v : Byte) (s : State) (h : region addr = .rom) : memWrite addr v s = s := by
  simp [memWrite, h]

theorem memWrite_unmapped (addr : Word) (v : Byte) (s : State) (h : region addr = .unmapped) :
    memWrite addr v s = s := by
  simp [memWrite, h]

theorem memWrite_reg (addr : Word) (v : Byte) (s : State) (h : region addr = .reg) :
    memWrite addr v s = regWrite addr v s := by
  simp [memWrite, h]

/-- What a write to the window can change: a peripheral, or the PORT events. -/
theorem regWrite_state (addr : Word) (v : Byte) (s : State) :
    ∃ t p e, regWrite addr v s = { s with timer := t, serial := p, portEvents := e } := by
  unfold regWrite
  split <;> exact ⟨_, _, _, rfl⟩

theorem memWrite_frame (addr : Word) (v : Byte) (s : State) : memWrite addr v s = s.withBus (memWrite addr v s) := by
  rcases region_cases addr with h | h | h | h
  · rw [memWrite_reg _ _ _ h.1]
    obtain ⟨t, p, e, h⟩ := regWrite_state addr v s
    rw [h]; rfl
  · rw [memWrite_ram _ _ _ h.1]; rfl
  · rw [memWrite_rom _ _ _ h.1]; rfl
  · rw [memWrite_unmapped _ _ _ h.1]; rfl

@[simp] theorem memWrite_draws (addr : Word) (v : Byte) (s : State) : (memWrite addr v s).draws = s.draws := by
  rcases region_cases addr with h | h | h | h
  · rw [memWrite_reg _ _ _ h.1]
    obtain ⟨t, p, e, h⟩ := regWrite_state addr v s
    rw [h]
  · rw [memWrite_ram _ _ _ h.1]
  · rw [memWrite_rom _ _ _ h.1]
  · rw [memWrite_unmapped _ _ _ h.1]

/-- The stored bytes after a write: changed in RAM only. -/
theorem memWrite_mem (addr : Word) (v : Byte) (s : State) :
    (memWrite addr v s).mem = if region addr = .ram then s.mem.write addr.toNat v else s.mem := by
  rcases region_cases addr with h | h | h | h
  · rw [memWrite_reg _ _ _ h.1, if_neg (by simp [h.1])]
    obtain ⟨t, p, e, h⟩ := regWrite_state addr v s
    rw [h]
  · rw [memWrite_ram _ _ _ h.1, if_pos h.1]
  · rw [memWrite_rom _ _ _ h.1, if_neg (by simp [h.1])]
  · rw [memWrite_unmapped _ _ _ h.1, if_neg (by simp [h.1])]

theorem memWrite_read_other (addr : Word) (v : Byte) (s : State) (a : Nat) (h : a ≠ addr.toNat) :
    (memWrite addr v s).mem.read a = s.mem.read a := by
  rw [memWrite_mem]
  split
  · exact Memory.read_write_other _ _ _ _ h
  · rfl

theorem memWrite_read_same (addr : Word) (v : Byte) (s : State) (hw : s.mem.wf = true) (h : region addr = .ram) :
    (memWrite addr v s).mem.read addr.toNat = v := by
  rw [memWrite_mem, if_pos h]
  exact Memory.read_write_of_wf _ _ _ hw

theorem memWrite_wf (addr : Word) (v : Byte) (s : State) (hw : s.mem.wf = true) :
    (memWrite addr v s).mem.wf = true := by
  rw [memWrite_mem]
  split
  · rename_i h
    exact Memory.wf_write _ _ _ hw (stores_of_ram addr h)
  · exact hw

/-- Outside the window a write leaves the peripherals and the PORT events alone. -/
theorem memWrite_off_window (addr : Word) (v : Byte) (s : State) (h : region addr ≠ .reg) :
    memWrite addr v s = { s with mem := (memWrite addr v s).mem } := by
  rcases region_cases addr with h' | h' | h' | h'
  · exact absurd h'.1 h
  · rw [memWrite_ram _ _ _ h'.1]
  · rw [memWrite_rom _ _ _ h'.1]
  · rw [memWrite_unmapped _ _ _ h'.1]

/-- A write looks at the bus alone: over other registers it does the same. -/
theorem memWrite_withBus (addr : Word) (v : Byte) (c s : State) :
    memWrite addr v (c.withBus s) = c.withBus (memWrite addr v s) := by
  unfold memWrite
  cases region addr with
  | reg =>
    simp only
    unfold regWrite
    split <;> rfl
  | ram => rfl
  | rom => rfl
  | unmapped => rfl

@[simp] theorem memWrite_counter (addr : Word) (v : Byte) (s : State) :
    (memWrite addr v s).timer.counter = s.timer.counter := by
  unfold memWrite
  cases region addr with
  | reg =>
    simp only
    unfold regWrite Timer.finishClear
    split <;> try rfl
    all_goals simp only; split <;> rfl
  | ram => rfl
  | rom => rfl
  | unmapped => rfl

@[simp] theorem memRead_counter (addr : Word) (s : State) : (memRead addr s).2.timer.counter = s.timer.counter := by
  obtain ⟨n, h⟩ := memRead_state addr s
  rw [h]
  simp only
  split <;> rfl

/-! ### Words (20_memory.md R69, R70) -/

theorem memRead16_frame (addr : Word) (s : State) : (memRead16 addr s).2 = s.withBus (memRead16 addr s).2 := by
  unfold memRead16
  simp only
  rw [memRead_frame (addr + 1), memRead_frame addr]
  rfl

@[simp] theorem memRead16_mem (addr : Word) (s : State) : (memRead16 addr s).2.mem = s.mem := by
  simp [memRead16]

@[simp] theorem memRead16_portEvents (addr : Word) (s : State) : (memRead16 addr s).2.portEvents = s.portEvents := by
  simp [memRead16]

@[simp] theorem memRead16_counter (addr : Word) (s : State) :
    (memRead16 addr s).2.timer.counter = s.timer.counter := by
  simp [memRead16]

theorem memRead16_withBus (addr : Word) (c s : State) :
    memRead16 addr (c.withBus s) = ((memRead16 addr s).1, c.withBus (memRead16 addr s).2) := by
  simp [memRead16, memRead_withBus]

/-- A word read from two image bytes has no side effect. -/
theorem memRead16_rom (addr : Word) (s : State) (h : region addr = .rom) (h' : region (addr + 1) = .rom) :
    memRead16 addr s = (s.mem.read addr.toNat ++ s.mem.read (addr + 1).toNat, s) := by
  simp only [memRead16, memRead_rom _ _ h, memRead_rom _ _ h']

theorem memWrite16_frame (addr v : Word) (s : State) : memWrite16 addr v s = s.withBus (memWrite16 addr v s) := by
  unfold memWrite16
  rw [memWrite_frame (addr + 1), memWrite_frame addr]
  rfl

/-! ### The stack (20_memory.md R75) -/

/-- A push: the byte goes to SP, SP goes down. -/
theorem push8_eq (v : Byte) (s : State) :
    push8 v s = { s with sp := s.sp - 1 }.withBus (memWrite s.sp v s) := by
  unfold push8
  simp only
  rw [memWrite_frame]
  rfl

@[simp] theorem push8_a (v : Byte) (s : State) : (push8 v s).a = s.a := by rw [push8_eq]; rfl
@[simp] theorem push8_b (v : Byte) (s : State) : (push8 v s).b = s.b := by rw [push8_eq]; rfl
@[simp] theorem push8_x (v : Byte) (s : State) : (push8 v s).x = s.x := by rw [push8_eq]; rfl
@[simp] theorem push8_sp (v : Byte) (s : State) : (push8 v s).sp = s.sp - 1 := by rw [push8_eq]; rfl
@[simp] theorem push8_pc (v : Byte) (s : State) : (push8 v s).pc = s.pc := by rw [push8_eq]; rfl
@[simp] theorem push8_ccr (v : Byte) (s : State) : (push8 v s).ccr = s.ccr := by rw [push8_eq]; rfl
@[simp] theorem push8_crashed (v : Byte) (s : State) : (push8 v s).crashed = s.crashed := by rw [push8_eq]; rfl
@[simp] theorem push8_waitState (v : Byte) (s : State) : (push8 v s).waitState = s.waitState := by rw [push8_eq]; rfl
@[simp] theorem push8_cliShadow (v : Byte) (s : State) : (push8 v s).cliShadow = s.cliShadow := by rw [push8_eq]; rfl
@[simp] theorem push8_phase (v : Byte) (s : State) : (push8 v s).phase = s.phase := by rw [push8_eq]; rfl
@[simp] theorem push8_pauseReq (v : Byte) (s : State) : (push8 v s).pauseReq = s.pauseReq := by rw [push8_eq]; rfl
@[simp] theorem push8_paused (v : Byte) (s : State) : (push8 v s).paused = s.paused := by rw [push8_eq]; rfl
@[simp] theorem push8_cyclesTotal (v : Byte) (s : State) : (push8 v s).cyclesTotal = s.cyclesTotal := by rw [push8_eq]; rfl

/-- A pull: SP goes up, the byte comes from there. -/
theorem pull8_eq (s : State) :
    pull8 s = ((memRead (s.sp + 1) s).1, { s with sp := s.sp + 1 }.withBus (memRead (s.sp + 1) s).2) :=
  memRead_withBus (s.sp + 1) { s with sp := s.sp + 1 } s

theorem push8_read_other (v : Byte) (s : State) (a : Nat) (h : a ≠ s.sp.toNat) :
    (push8 v s).mem.read a = s.mem.read a := by
  rw [push8_eq]; exact memWrite_read_other _ _ _ _ h

theorem push8_wf (v : Byte) (s : State) (h : s.mem.wf = true) : (push8 v s).mem.wf = true := by
  rw [push8_eq]; exact memWrite_wf _ _ _ h

/-- A push of a word: low byte at SP, high byte at SP - 1. -/
theorem push16_eq (v : Word) (s : State) :
    push16 v s =
      { s with sp := s.sp - 2 }.withBus (memWrite (s.sp - 1) (highByte v) (memWrite s.sp (lowByte v) s)) := by
  have h : memWrite (s.sp - 1) (highByte v) (push8 (lowByte v) s) =
      { s with sp := s.sp - 1 }.withBus (memWrite (s.sp - 1) (highByte v) (memWrite s.sp (lowByte v) s)) := by
    rw [push8_eq, memWrite_withBus]
  rw [push16, push8_eq (highByte v), push8_sp, h, State.withBus_of_withBus]
  apply State.withBus_congr <;> simp
  bv_omega

@[simp] theorem push16_a (v : Word) (s : State) : (push16 v s).a = s.a := by rw [push16_eq]; rfl
@[simp] theorem push16_b (v : Word) (s : State) : (push16 v s).b = s.b := by rw [push16_eq]; rfl
@[simp] theorem push16_x (v : Word) (s : State) : (push16 v s).x = s.x := by rw [push16_eq]; rfl
@[simp] theorem push16_sp (v : Word) (s : State) : (push16 v s).sp = s.sp - 2 := by rw [push16_eq]; rfl
@[simp] theorem push16_pc (v : Word) (s : State) : (push16 v s).pc = s.pc := by rw [push16_eq]; rfl
@[simp] theorem push16_ccr (v : Word) (s : State) : (push16 v s).ccr = s.ccr := by rw [push16_eq]; rfl
@[simp] theorem push16_crashed (v : Word) (s : State) : (push16 v s).crashed = s.crashed := by rw [push16_eq]; rfl
@[simp] theorem push16_waitState (v : Word) (s : State) : (push16 v s).waitState = s.waitState := by rw [push16_eq]; rfl
@[simp] theorem push16_cliShadow (v : Word) (s : State) : (push16 v s).cliShadow = s.cliShadow := by rw [push16_eq]; rfl
@[simp] theorem push16_phase (v : Word) (s : State) : (push16 v s).phase = s.phase := by rw [push16_eq]; rfl
@[simp] theorem push16_pauseReq (v : Word) (s : State) : (push16 v s).pauseReq = s.pauseReq := by rw [push16_eq]; rfl
@[simp] theorem push16_paused (v : Word) (s : State) : (push16 v s).paused = s.paused := by rw [push16_eq]; rfl
@[simp] theorem push16_cyclesTotal (v : Word) (s : State) : (push16 v s).cyclesTotal = s.cyclesTotal := by rw [push16_eq]; rfl

/-- A pull of a word: the word at SP + 1. -/
theorem pull16_eq (s : State) :
    pull16 s = ((memRead16 (s.sp + 1) s).1, { s with sp := s.sp + 2 }.withBus (memRead16 (s.sp + 1) s).2) := by
  unfold pull16 memRead16
  simp only [pull8_eq, State.withBus_sp, memRead_withBus, State.withBus_of_withBus]
  refine Prod.ext rfl ?_
  show State.withBus { s with sp := s.sp + 1 + 1 } _ = _
  rw [show s.sp + 1 + 1 = s.sp + 2 by bv_omega]

/-! ### The interrupt frame (60_exceptions.md R310) -/

/-- The seven writes of a frame, the first at SP. -/
theorem pushFrame_eq (s : State) :
    pushFrame s = { s with sp := s.sp - 7 }.withBus
      (memWrite (s.sp - 6) s.ccr.toByte (memWrite (s.sp - 5) s.b (memWrite (s.sp - 4) s.a
        (memWrite (s.sp - 3) (highByte s.x) (memWrite (s.sp - 2) (lowByte s.x)
          (memWrite (s.sp - 1) (highByte s.pc) (memWrite s.sp (lowByte s.pc) s))))))) := by
  have a1 : s.sp - 2 - 1 = s.sp - 3 := by ring
  have a2 : s.sp - 2 - 2 = s.sp - 4 := by ring
  have a3 : s.sp - 4 - 1 = s.sp - 5 := by ring
  have a4 : s.sp - 5 - 1 = s.sp - 6 := by ring
  have a5 : s.sp - 6 - 1 = s.sp - 7 := by ring
  unfold pushFrame
  rw [push8_eq s.ccr.toByte, push8_sp, push8_sp, push16_sp, push16_sp, a2, a3, a4,
    push8_eq s.b, push8_sp, push16_sp, push16_sp, a2, a3, push8_eq s.a, push16_sp, push16_sp, a2,
    push16_eq s.x, push16_sp, a1, push16_eq s.pc]
  simp only [memWrite_withBus, State.withBus_of_withBus]
  apply State.withBus_congr <;> simp only [State.withBus_a, State.withBus_b, State.withBus_x, State.withBus_pc,
    State.withBus_ccr, State.withBus_crashed, State.withBus_waitState, State.withBus_phase, State.withBus_pauseReq,
    State.withBus_paused, State.withBus_cyclesTotal, State.withBus_cliShadow]
  exact a5

/-- What pushing a frame changes besides SP: the bus alone. -/
theorem pushFrame_frame (s : State) : pushFrame s = { s with sp := s.sp - 7 }.withBus (pushFrame s) := by
  apply State.eq_withBus <;> simp only [pushFrame, push8_a, push8_b, push8_x, push8_sp, push8_pc, push8_ccr,
    push8_crashed, push8_waitState, push8_phase, push8_pauseReq, push8_paused, push8_cyclesTotal, push8_cliShadow, push16_a, push16_b,
    push16_x, push16_sp, push16_pc, push16_ccr, push16_crashed, push16_waitState, push16_phase, push16_pauseReq,
    push16_paused, push16_cyclesTotal, push16_cliShadow]
  ring

/-- Every state that some pushes lead to keeps a property of the bus that each write keeps. -/
theorem pushFrame_induct (P : State → Prop) (hP : ∀ c s : State, P s → P (c.withBus s))
    (hw : ∀ addr v s, P s → P (memWrite addr v s)) (s : State) (h : P s) : P (pushFrame s) := by
  have h8 : ∀ v s, P s → P (push8 v s) := fun v s h => by rw [push8_eq]; exact hP _ _ (hw _ _ _ h)
  exact h8 _ _ (h8 _ _ (h8 _ _ (h8 _ _ (h8 _ _ (h8 _ _ (h8 _ _ h))))))

theorem pushFrame_wf (s : State) (h : s.mem.wf = true) : (pushFrame s).mem.wf = true :=
  pushFrame_induct (fun t => t.mem.wf = true) (fun _ _ h => h) memWrite_wf s h

@[simp] theorem pushFrame_draws (s : State) : (pushFrame s).draws = s.draws :=
  pushFrame_induct (fun t => t.draws = s.draws) (fun _ _ h => h) (fun _ _ _ h => by simp [h]) s rfl

@[simp] theorem pushFrame_counter (s : State) : (pushFrame s).timer.counter = s.timer.counter :=
  pushFrame_induct (fun t => t.timer.counter = s.timer.counter) (fun _ _ h => h) (fun _ _ _ h => by simp [h]) s rfl

/-- No push reaches the image. -/
theorem pushFrame_image (s : State) (a : Nat) (h : 61440 ≤ a) : (pushFrame s).mem.read a = s.mem.read a := by
  refine pushFrame_induct (fun t => t.mem.read a = s.mem.read a) (fun _ _ h => h) (fun addr v t ht => ?_) s rfl
  rw [memWrite_mem]
  split
  · rename_i hr
    have := (region_ram_iff addr).1 hr
    rw [Memory.read_write_other _ _ _ _ (by omega), ht]
  · exact ht

/-- A pull over the bus of another state. -/
theorem pull8_withBus (c u : State) :
    pull8 (c.withBus u) =
      ((memRead (c.sp + 1) u).1, (c.setReg16 .sp (c.sp + 1)).withBus (memRead (c.sp + 1) u).2) :=
  memRead_withBus (c.sp + 1) { c with sp := c.sp + 1 } u

theorem State.setCcr_withBus (c u : State) (cc : Ccr) : (c.withBus u).setCcr cc = (c.setCcr cc).withBus u := rfl

theorem State.setAcc_withBus (c u : State) (r : Acc) (v : Byte) :
    (c.withBus u).setAcc r v = (c.setAcc r v).withBus u := by
  cases r <;> rfl

theorem State.setReg16_withBus (c u : State) (r : Reg16) (v : Word) :
    (c.withBus u).setReg16 r v = (c.setReg16 r v).withBus u := by
  cases r <;> rfl

theorem State.jump_withBus (c u : State) (target : Word) : (c.withBus u).jump target = (c.jump target).withBus u := rfl

/-- The seven reads of a return from an interrupt, from SP + 1 on. -/
theorem returnFromInterrupt_eq (s : State) :
    let cc := memRead (s.sp + 1) s
    let b := memRead (s.sp + 2) cc.2
    let a := memRead (s.sp + 3) b.2
    let xh := memRead (s.sp + 4) a.2
    let xl := memRead (s.sp + 5) xh.2
    let ph := memRead (s.sp + 6) xl.2
    let pl := memRead (s.sp + 7) ph.2
    returnFromInterrupt s = { s with
      ccr := Ccr.ofByte cc.1, b := b.1, a := a.1, x := xh.1 ++ xl.1, pc := ph.1 ++ pl.1, sp := s.sp + 7 }.withBus pl.2 := by
  have e2 : s.sp + 1 + 1 = s.sp + 2 := by ring
  have e3 : s.sp + 2 + 1 = s.sp + 3 := by ring
  have e4 : s.sp + 3 + 1 = s.sp + 4 := by ring
  have e5 : s.sp + 4 + 1 = s.sp + 5 := by ring
  have e6 : s.sp + 5 + 1 = s.sp + 6 := by ring
  have e7 : s.sp + 6 + 1 = s.sp + 7 := by ring
  intro cc b a xh xl ph pl
  have h0 : returnFromInterrupt s = returnFromInterrupt (s.withBus s) := rfl
  rw [h0]
  simp only [returnFromInterrupt, pull16, pull8_withBus, State.setCcr_withBus, State.setAcc_withBus,
    State.setReg16_withBus, State.jump_withBus, State.setReg16_sp_sp, State.setCcr_sp, State.setAcc_sp,
    State.setReg16_x_sp, e2, e3, e4, e5, e6, e7]
  apply State.withBus_congr <;> rfl
/-- Entering a handler over an image vector: I is set and pc is the word there. -/
theorem enterHandler_rom (vec : Word) (s : State) (h : region vec = .rom) (h' : region (vec + 1) = .rom) :
    enterHandler vec s =
      { s with
        ccr := { s.ccr with i := true }
        pc := s.mem.read vec.toNat ++ s.mem.read (vec + 1).toNat } := by
  unfold enterHandler
  simp only [memRead16_rom _ _ h h']
  rfl

/-! ### The invariant under accesses -/

theorem State.Inv.withBus {c s : State} (hc : c.Inv) (hs : s.Inv) : (c.withBus s).Inv :=
  ⟨hs.memWf, hs.queueBounded, hs.armedWithFlag, hs.overrunWithByte, hc.crashedRuns, hc.pausedOnRequest,
    hs.eventsUnowned⟩

/-- The invariant names no register: a state that differs in registers only keeps it. -/
theorem State.Inv.ofRegs {s t : State} (h : s.Inv) (hm : t.mem = s.mem) (ht : t.timer = s.timer)
    (hp : t.serial = s.serial) (hw : t.waitState = s.waitState) (hc : t.crashed = s.crashed) (hq : t.paused = s.paused)
    (hr : t.pauseReq = s.pauseReq) (he : t.portEvents = s.portEvents) : t.Inv := by
  obtain ⟨h1, h2, h3, h4, h5, h6, h7⟩ := h
  exact ⟨hm ▸ h1, hp ▸ h2, ht ▸ h3, hp ▸ h4, by rw [hc, hw]; exact h5, by rw [hq, hr]; exact h6, he ▸ h7⟩

theorem inv_memRead (addr : Word) (s : State) (h : s.Inv) : (memRead addr s).2.Inv := by
  obtain ⟨n, e⟩ := memRead_state addr s
  rw [e]
  refine ⟨h.memWf, ?_, ?_, ?_, h.crashedRuns, h.pausedOnRequest, h.eventsUnowned⟩
  · simp only; split
    · exact h.queueBounded
    · exact h.queueBounded
  · have := h.armedWithFlag
    simp only; split
    · simp [Timer.arm]; tauto
    · exact this
  · have := h.overrunWithByte
    simp only; split
    · simp [Serial.afterRdrRead]
    · exact this

theorem Timer.finishClear_armed (t : Timer) : t.finishClear.ocfArmed = false := by
  unfold Timer.finishClear
  split
  · rfl
  · simp_all

theorem inv_memWrite (addr : Word) (v : Byte) (s : State) (h : s.Inv) : (memWrite addr v s).Inv := by
  by_cases hr : region addr = .reg
  · have h32 := (region_reg_iff addr).1 hr
    rw [memWrite_reg _ _ _ hr]
    obtain ⟨h1, h2, h3, h4, h5, h6, h7⟩ := h
    unfold regWrite
    split
    case h_8 =>
      refine ⟨h1, ?_, h3, ?_, h5, h6, h7⟩
      · simp only [Serial.transmit]
        split
        · rename_i hl
          intro cap hcap
          rw [hcap] at hl
          rw [List.length_append]
          exact Nat.succ_le_of_lt (of_decide_eq_true hl)
        · exact h2
      · simp only [Serial.transmit]; split <;> exact h4
    case h_9 g1 g2 g3 g4 g5 g6 g7 g8 =>
      refine ⟨h1, h2, h3, h4, h5, h6, ?_⟩
      intro e he
      rcases List.mem_append.1 he with he | he
      · exact h7 e he
      · obtain rfl := List.mem_singleton.1 he
        refine ⟨h32, ?_⟩
        simp only [ownedAddresses, List.mem_cons, List.not_mem_nil, or_false, not_or]
        exact ⟨g1, g2, g3, g4, g5, g6, g7, g8⟩
    all_goals
      exact ⟨h1, h2, by first | exact h3 | (intro ha; simp [Timer.finishClear_armed] at ha), h4, h5, h6, h7⟩
  · have e := memWrite_off_window addr v s hr
    have hw := memWrite_wf addr v s h.memWf
    rw [e] at hw ⊢
    exact ⟨hw, h.queueBounded, h.armedWithFlag, h.overrunWithByte, h.crashedRuns, h.pausedOnRequest,
      h.eventsUnowned⟩

end Sys2Proof.Machine
end

