-- ==== Sys2Proof/Laws/Exec.lean ====
section
/-! SUPPORT. What every instruction can do, said once: it answers a next state, reached by reads and writes of bytes and by
changes of registers, flags, the wait state, the crashed flag and the count of arbitrary values, and by nothing else. So a
property that these keep is kept by every instruction. -/

namespace Sys2Proof.Machine

open Sys2Proof

/-- A property of states that the register changes, the reads, the writes and the draws of an instruction keep. -/
structure Kept (P : State → Prop) : Prop where
  /-- Registers, flags and pc do not matter. -/
  regs : ∀ (s : State) (a b : Byte) (x sp pc : Word) (cc : Ccr), P s →
    P { s with a := a, b := b, x := x, sp := sp, pc := pc, ccr := cc }
  /-- A byte is read. -/
  read : ∀ addr s, P s → P (memRead addr s).2
  /-- A byte is written. -/
  write : ∀ addr v s, P s → P (memWrite addr v s)
  /-- Arbitrary values are drawn. -/
  drawn : ∀ (s : State) (n : Nat), P s → P { s with draws := n }

namespace Kept

variable {P : State → Prop} (k : Kept P) {s : State}
include k

theorem setAcc (r : Acc) (v : Byte) (h : P s) : P (s.setAcc r v) := by
  cases r <;> exact k.regs s _ _ _ _ _ _ h

theorem setReg16 (r : Reg16) (v : Word) (h : P s) : P (s.setReg16 r v) := by
  cases r <;> exact k.regs s _ _ _ _ _ _ h

theorem setD (v : Word) (h : P s) : P (s.setD v) :=
  k.regs s _ _ _ _ _ _ h

theorem setCcr (cc : Ccr) (h : P s) : P (s.setCcr cc) :=
  k.regs s _ _ _ _ _ _ h

theorem advance (n : Nat) (h : P s) : P (s.advance n) :=
  k.regs s _ _ _ _ _ _ h

theorem jump (target : Word) (h : P s) : P (s.jump target) :=
  k.regs s _ _ _ _ _ _ h

theorem setSp (sp : Word) (h : P s) : P { s with sp := sp } :=
  k.regs s _ _ _ _ _ _ h

theorem memRead16 (addr : Word) (h : P s) : P (memRead16 addr s).2 :=
  k.read _ _ (k.read _ _ h)

theorem memWrite16 (addr v : Word) (h : P s) : P (memWrite16 addr v s) :=
  k.write _ _ _ (k.write _ _ _ h)

theorem push8 (v : Byte) (h : P s) : P (push8 v s) :=
  k.setSp _ (k.write _ _ _ h)

theorem pull8 (h : P s) : P (pull8 s).2 :=
  k.read _ _ (k.setSp _ h)

theorem push16 (v : Word) (h : P s) : P (push16 v s) :=
  k.push8 _ (k.push8 _ h)

theorem pull16 (h : P s) : P (pull16 s).2 :=
  k.pull8 (k.pull8 h)

theorem pushFrame (h : P s) : P (pushFrame s) :=
  k.push8 _ (k.push8 _ (k.push8 _ (k.push16 _ (k.push16 _ h))))

theorem enterHandler (vec : Word) (h : P s) : P (enterHandler vec s) :=
  k.jump _ (k.memRead16 _ (k.setCcr _ h))

theorem takeInterrupt (vec : Word) (h : P s) : P (takeInterrupt vec s) :=
  k.enterHandler _ (k.pushFrame h)

theorem returnFromInterrupt (h : P s) : P (returnFromInterrupt s) :=
  k.jump _ (k.pull16 (k.setReg16 _ _ (k.pull16 (k.setAcc _ _ (k.pull8 (k.setAcc _ _ (k.pull8 (k.setCcr _
    (k.pull8 h)))))))))

theorem operand8 (src : Src8) (h : P s) : P (operand8 src s).2 := by
  cases src with
  | imm ii => exact h
  | mem m => exact k.read _ _ h

theorem operand16 (src : Src16) (h : P s) : P (operand16 src s).2 := by
  cases src with
  | imm jjkk => exact h
  | mem m => exact k.memRead16 _ h

theorem load8 (r : Acc) (src : Src8) (h : P s) : P (load8 r src s) :=
  k.advance _ (k.setCcr _ (k.setAcc _ _ (k.operand8 _ h)))

theorem load16 (r : Reg16) (src : Src16) (h : P s) : P (load16 r src s) :=
  k.advance _ (k.setCcr _ (k.setReg16 _ _ (k.operand16 _ h)))

theorem store8 (r : Acc) (m : Ea) (h : P s) : P (store8 r m s) :=
  k.advance _ (k.setCcr _ (k.write _ _ _ h))

theorem store16 (r : Reg16) (m : Ea) (h : P s) : P (store16 r m s) :=
  k.advance _ (k.setCcr _ (k.memWrite16 _ _ h))

theorem pullAcc (r : Acc) (h : P s) : P (pullAcc r s) :=
  k.advance _ (k.setAcc _ _ (k.pull8 h))

theorem clearByte (m : Ea) (h : P s) : P (clearByte m s) :=
  k.advance _ (k.setCcr _ (k.write _ _ _ h))

theorem accOp8 (f : Ccr → Byte → Byte → Byte × Ccr) (r : Acc) (src : Src8) (h : P s) : P (accOp8 f r src s) :=
  k.advance _ (k.setCcr _ (k.setAcc _ _ (k.operand8 _ h)))

theorem accTest8 (f : Ccr → Byte → Byte → Byte × Ccr) (r : Acc) (src : Src8) (h : P s) : P (accTest8 f r src s) :=
  k.advance _ (k.setCcr _ (k.operand8 _ h))

theorem accFromB (f : Ccr → Byte → Byte → Byte × Ccr) (h : P s) : P (accFromB f s) :=
  k.advance _ (k.setCcr _ (k.setAcc _ _ h))

theorem dOp16 (f : Ccr → Word → Word → Word × Ccr) (src : Src16) (h : P s) : P (dOp16 f src s) :=
  k.advance _ (k.setCcr _ (k.setD _ (k.operand16 _ h)))

theorem compareX (src : Src16) (h : P s) : P (compareX src s) :=
  k.advance _ (k.setCcr _ (k.operand16 _ h))

theorem accUnary (f : Ccr → Byte → Byte × Ccr) (r : Acc) (h : P s) : P (accUnary f r s) :=
  k.advance _ (k.setCcr _ (k.setAcc _ _ h))

theorem modifyByte (f : Ccr → Byte → Byte × Ccr) (m : Ea) (h : P s) : P (modifyByte f m s) :=
  k.advance _ (k.setCcr _ (k.write _ _ _ (k.read _ _ h)))

theorem testByte (m : Ea) (h : P s) : P (testByte m s) :=
  k.advance _ (k.setCcr _ (k.read _ _ h))

theorem decimalAdjust (h : P s) : P (decimalAdjust s) :=
  k.advance _ (k.setCcr _ (k.setAcc _ _ (k.drawn _ _ h)))

theorem maskByte (f : Ccr → Byte → Byte → Byte × Ccr) (mask : Byte) (m : Ea) (h : P s) : P (maskByte f mask m s) :=
  k.advance _ (k.modifyByte _ _ h)

theorem testMask (mask : Byte) (m : Ea) (h : P s) : P (testMask mask m s) :=
  k.advance _ (k.setCcr _ (k.read _ _ h))

theorem branch (c : Cond) (rr : Byte) (h : P s) : P (branch c rr s) := by
  unfold Machine.branch
  split
  · exact k.jump _ h
  · exact k.advance _ h

theorem callSubroutine (len : Nat) (target : Word) (h : P s) : P (callSubroutine len target s) :=
  k.jump _ (k.push16 _ h)

end Kept

/-- Every instruction answers a next state, which has every property that register changes, reads, writes and draws keep, if
entering a wait state keeps it and, for an illegal opcode, setting the crashed flag does. -/
theorem exec_kept {P : State → Prop} (k : Kept P) (i : Instr) (s : State) (h : P s)
    (hwait : ∀ (w : WaitState) (u : State), P u → P { u with waitState := w })
    (hcrash : ∀ op, i = .illegal op → P { s with crashed := true }) : ∃ t, exec i s = .next t ∧ P t := by
  cases i with
  | illegal _ => exact ⟨_, rfl, hcrash _ rfl⟩
  | nop => exact ⟨_, rfl, k.advance _ h⟩
  | lsrd => exact ⟨_, rfl, k.regs s _ _ _ _ _ _ h⟩
  | asld => exact ⟨_, rfl, k.regs s _ _ _ _ _ _ h⟩
  | tap => exact ⟨_, rfl, k.regs s _ _ _ _ _ _ h⟩
  | tpa => exact ⟨_, rfl, k.regs s _ _ _ _ _ _ h⟩
  | inx => exact ⟨_, rfl, k.regs s _ _ _ _ _ _ h⟩
  | dex => exact ⟨_, rfl, k.regs s _ _ _ _ _ _ h⟩
  | clv => exact ⟨_, rfl, k.regs s _ _ _ _ _ _ h⟩
  | sev => exact ⟨_, rfl, k.regs s _ _ _ _ _ _ h⟩
  | clc => exact ⟨_, rfl, k.regs s _ _ _ _ _ _ h⟩
  | sec => exact ⟨_, rfl, k.regs s _ _ _ _ _ _ h⟩
  | cli => exact ⟨_, rfl, k.regs s _ _ _ _ _ _ h⟩
  | sei => exact ⟨_, rfl, k.regs s _ _ _ _ _ _ h⟩
  | sba => exact ⟨_, rfl, k.accFromB _ h⟩
  | cba => exact ⟨_, rfl, k.regs s _ _ _ _ _ _ h⟩
  | tab => exact ⟨_, rfl, k.regs s _ _ _ _ _ _ h⟩
  | tba => exact ⟨_, rfl, k.regs s _ _ _ _ _ _ h⟩
  | xgdx => exact ⟨_, rfl, k.regs s _ _ _ _ _ _ h⟩
  | daa => exact ⟨_, rfl, k.decimalAdjust h⟩
  | slp => exact ⟨_, rfl, hwait _ _ (k.advance _ h)⟩
  | aba => exact ⟨_, rfl, k.accFromB _ h⟩
  | bra _ => exact ⟨_, rfl, k.branch _ _ h⟩
  | brn _ => exact ⟨_, rfl, k.branch _ _ h⟩
  | bhi _ => exact ⟨_, rfl, k.branch _ _ h⟩
  | bls _ => exact ⟨_, rfl, k.branch _ _ h⟩
  | bcc _ => exact ⟨_, rfl, k.branch _ _ h⟩
  | bcs _ => exact ⟨_, rfl, k.branch _ _ h⟩
  | bne _ => exact ⟨_, rfl, k.branch _ _ h⟩
  | beq _ => exact ⟨_, rfl, k.branch _ _ h⟩
  | bvc _ => exact ⟨_, rfl, k.branch _ _ h⟩
  | bvs _ => exact ⟨_, rfl, k.branch _ _ h⟩
  | bpl _ => exact ⟨_, rfl, k.branch _ _ h⟩
  | bmi _ => exact ⟨_, rfl, k.branch _ _ h⟩
  | bge _ => exact ⟨_, rfl, k.branch _ _ h⟩
  | blt _ => exact ⟨_, rfl, k.branch _ _ h⟩
  | bgt _ => exact ⟨_, rfl, k.branch _ _ h⟩
  | ble _ => exact ⟨_, rfl, k.branch _ _ h⟩
  | tsx => exact ⟨_, rfl, k.regs s _ _ _ _ _ _ h⟩
  | ins => exact ⟨_, rfl, k.regs s _ _ _ _ _ _ h⟩
  | pula => exact ⟨_, rfl, k.pullAcc _ h⟩
  | pulb => exact ⟨_, rfl, k.pullAcc _ h⟩
  | des => exact ⟨_, rfl, k.regs s _ _ _ _ _ _ h⟩
  | txs => exact ⟨_, rfl, k.regs s _ _ _ _ _ _ h⟩
  | psha => exact ⟨_, rfl, k.advance _ (k.push8 _ h)⟩
  | pshb => exact ⟨_, rfl, k.advance _ (k.push8 _ h)⟩
  | pulx => exact ⟨_, rfl, k.advance _ (k.setReg16 _ _ (k.pull16 h))⟩
  | rts => exact ⟨_, rfl, k.jump _ (k.pull16 h)⟩
  | abx => exact ⟨_, rfl, k.regs s _ _ _ _ _ _ h⟩
  | rti => exact ⟨_, rfl, k.returnFromInterrupt h⟩
  | pshx => exact ⟨_, rfl, k.advance _ (k.push16 _ h)⟩
  | mul => exact ⟨_, rfl, k.regs s _ _ _ _ _ _ h⟩
  | wai => exact ⟨_, rfl, hwait _ _ (k.pushFrame (k.advance _ h))⟩
  | swi => exact ⟨_, rfl, k.takeInterrupt _ (k.advance _ h)⟩
  | nega => exact ⟨_, rfl, k.accUnary _ _ h⟩
  | coma => exact ⟨_, rfl, k.accUnary _ _ h⟩
  | lsra => exact ⟨_, rfl, k.accUnary _ _ h⟩
  | rora => exact ⟨_, rfl, k.accUnary _ _ h⟩
  | asra => exact ⟨_, rfl, k.accUnary _ _ h⟩
  | asla => exact ⟨_, rfl, k.accUnary _ _ h⟩
  | rola => exact ⟨_, rfl, k.accUnary _ _ h⟩
  | deca => exact ⟨_, rfl, k.accUnary _ _ h⟩
  | inca => exact ⟨_, rfl, k.accUnary _ _ h⟩
  | tsta => exact ⟨_, rfl, k.regs s _ _ _ _ _ _ h⟩
  | clra => exact ⟨_, rfl, k.regs s _ _ _ _ _ _ h⟩
  | negb => exact ⟨_, rfl, k.accUnary _ _ h⟩
  | comb => exact ⟨_, rfl, k.accUnary _ _ h⟩
  | lsrb => exact ⟨_, rfl, k.accUnary _ _ h⟩
  | rorb => exact ⟨_, rfl, k.accUnary _ _ h⟩
  | asrb => exact ⟨_, rfl, k.accUnary _ _ h⟩
  | aslb => exact ⟨_, rfl, k.accUnary _ _ h⟩
  | rolb => exact ⟨_, rfl, k.accUnary _ _ h⟩
  | decb => exact ⟨_, rfl, k.accUnary _ _ h⟩
  | incb => exact ⟨_, rfl, k.accUnary _ _ h⟩
  | tstb => exact ⟨_, rfl, k.regs s _ _ _ _ _ _ h⟩
  | clrb => exact ⟨_, rfl, k.regs s _ _ _ _ _ _ h⟩
  | negIdx _ => exact ⟨_, rfl, k.modifyByte _ _ h⟩
  | aimIdx _ _ => exact ⟨_, rfl, k.maskByte _ _ _ h⟩
  | oimIdx _ _ => exact ⟨_, rfl, k.maskByte _ _ _ h⟩
  | comIdx _ => exact ⟨_, rfl, k.modifyByte _ _ h⟩
  | lsrIdx _ => exact ⟨_, rfl, k.modifyByte _ _ h⟩
  | eimIdx _ _ => exact ⟨_, rfl, k.maskByte _ _ _ h⟩
  | rorIdx _ => exact ⟨_, rfl, k.modifyByte _ _ h⟩
  | asrIdx _ => exact ⟨_, rfl, k.modifyByte _ _ h⟩
  | aslIdx _ => exact ⟨_, rfl, k.modifyByte _ _ h⟩
  | rolIdx _ => exact ⟨_, rfl, k.modifyByte _ _ h⟩
  | decIdx _ => exact ⟨_, rfl, k.modifyByte _ _ h⟩
  | timIdx _ _ => exact ⟨_, rfl, k.testMask _ _ h⟩
  | incIdx _ => exact ⟨_, rfl, k.modifyByte _ _ h⟩
  | tstIdx _ => exact ⟨_, rfl, k.testByte _ h⟩
  | jmpIdx _ => exact ⟨_, rfl, k.regs s _ _ _ _ _ _ h⟩
  | clrIdx _ => exact ⟨_, rfl, k.clearByte _ h⟩
  | negExt _ => exact ⟨_, rfl, k.modifyByte _ _ h⟩
  | aimDir _ _ => exact ⟨_, rfl, k.maskByte _ _ _ h⟩
  | oimDir _ _ => exact ⟨_, rfl, k.maskByte _ _ _ h⟩
  | comExt _ => exact ⟨_, rfl, k.modifyByte _ _ h⟩
  | lsrExt _ => exact ⟨_, rfl, k.modifyByte _ _ h⟩
  | eimDir _ _ => exact ⟨_, rfl, k.maskByte _ _ _ h⟩
  | rorExt _ => exact ⟨_, rfl, k.modifyByte _ _ h⟩
  | asrExt _ => exact ⟨_, rfl, k.modifyByte _ _ h⟩
  | aslExt _ => exact ⟨_, rfl, k.modifyByte _ _ h⟩
  | rolExt _ => exact ⟨_, rfl, k.modifyByte _ _ h⟩
  | decExt _ => exact ⟨_, rfl, k.modifyByte _ _ h⟩
  | timDir _ _ => exact ⟨_, rfl, k.testMask _ _ h⟩
  | incExt _ => exact ⟨_, rfl, k.modifyByte _ _ h⟩
  | tstExt _ => exact ⟨_, rfl, k.testByte _ h⟩
  | jmpExt _ => exact ⟨_, rfl, k.regs s _ _ _ _ _ _ h⟩
  | clrExt _ => exact ⟨_, rfl, k.clearByte _ h⟩
  | subaImm _ => exact ⟨_, rfl, k.accOp8 _ _ _ h⟩
  | cmpaImm _ => exact ⟨_, rfl, k.accTest8 _ _ _ h⟩
  | sbcaImm _ => exact ⟨_, rfl, k.accOp8 _ _ _ h⟩
  | subdImm _ => exact ⟨_, rfl, k.dOp16 _ _ h⟩
  | andaImm _ => exact ⟨_, rfl, k.accOp8 _ _ _ h⟩
  | bitaImm _ => exact ⟨_, rfl, k.accTest8 _ _ _ h⟩
  | ldaaImm _ => exact ⟨_, rfl, k.load8 _ _ h⟩
  | eoraImm _ => exact ⟨_, rfl, k.accOp8 _ _ _ h⟩
  | adcaImm _ => exact ⟨_, rfl, k.accOp8 _ _ _ h⟩
  | oraaImm _ => exact ⟨_, rfl, k.accOp8 _ _ _ h⟩
  | addaImm _ => exact ⟨_, rfl, k.accOp8 _ _ _ h⟩
  | cpxImm _ => exact ⟨_, rfl, k.compareX _ h⟩
  | bsr _ => exact ⟨_, rfl, k.callSubroutine _ _ h⟩
  | ldsImm _ => exact ⟨_, rfl, k.load16 _ _ h⟩
  | subaDir _ => exact ⟨_, rfl, k.accOp8 _ _ _ h⟩
  | cmpaDir _ => exact ⟨_, rfl, k.accTest8 _ _ _ h⟩
  | sbcaDir _ => exact ⟨_, rfl, k.accOp8 _ _ _ h⟩
  | subdDir _ => exact ⟨_, rfl, k.dOp16 _ _ h⟩
  | andaDir _ => exact ⟨_, rfl, k.accOp8 _ _ _ h⟩
  | bitaDir _ => exact ⟨_, rfl, k.accTest8 _ _ _ h⟩
  | ldaaDir _ => exact ⟨_, rfl, k.load8 _ _ h⟩
  | staaDir _ => exact ⟨_, rfl, k.store8 _ _ h⟩
  | eoraDir _ => exact ⟨_, rfl, k.accOp8 _ _ _ h⟩
  | adcaDir _ => exact ⟨_, rfl, k.accOp8 _ _ _ h⟩
  | oraaDir _ => exact ⟨_, rfl, k.accOp8 _ _ _ h⟩
  | addaDir _ => exact ⟨_, rfl, k.accOp8 _ _ _ h⟩
  | cpxDir _ => exact ⟨_, rfl, k.compareX _ h⟩
  | jsrDir _ => exact ⟨_, rfl, k.callSubroutine _ _ h⟩
  | ldsDir _ => exact ⟨_, rfl, k.load16 _ _ h⟩
  | stsDir _ => exact ⟨_, rfl, k.store16 _ _ h⟩
  | subaIdx _ => exact ⟨_, rfl, k.accOp8 _ _ _ h⟩
  | cmpaIdx _ => exact ⟨_, rfl, k.accTest8 _ _ _ h⟩
  | sbcaIdx _ => exact ⟨_, rfl, k.accOp8 _ _ _ h⟩
  | subdIdx _ => exact ⟨_, rfl, k.dOp16 _ _ h⟩
  | andaIdx _ => exact ⟨_, rfl, k.accOp8 _ _ _ h⟩
  | bitaIdx _ => exact ⟨_, rfl, k.accTest8 _ _ _ h⟩
  | ldaaIdx _ => exact ⟨_, rfl, k.load8 _ _ h⟩
  | staaIdx _ => exact ⟨_, rfl, k.store8 _ _ h⟩
  | eoraIdx _ => exact ⟨_, rfl, k.accOp8 _ _ _ h⟩
  | adcaIdx _ => exact ⟨_, rfl, k.accOp8 _ _ _ h⟩
  | oraaIdx _ => exact ⟨_, rfl, k.accOp8 _ _ _ h⟩
  | addaIdx _ => exact ⟨_, rfl, k.accOp8 _ _ _ h⟩
  | cpxIdx _ => exact ⟨_, rfl, k.compareX _ h⟩
  | jsrIdx _ => exact ⟨_, rfl, k.callSubroutine _ _ h⟩
  | ldsIdx _ => exact ⟨_, rfl, k.load16 _ _ h⟩
  | stsIdx _ => exact ⟨_, rfl, k.store16 _ _ h⟩
  | subaExt _ => exact ⟨_, rfl, k.accOp8 _ _ _ h⟩
  | cmpaExt _ => exact ⟨_, rfl, k.accTest8 _ _ _ h⟩
  | sbcaExt _ => exact ⟨_, rfl, k.accOp8 _ _ _ h⟩
  | subdExt _ => exact ⟨_, rfl, k.dOp16 _ _ h⟩
  | andaExt _ => exact ⟨_, rfl, k.accOp8 _ _ _ h⟩
  | bitaExt _ => exact ⟨_, rfl, k.accTest8 _ _ _ h⟩
  | ldaaExt _ => exact ⟨_, rfl, k.load8 _ _ h⟩
  | staaExt _ => exact ⟨_, rfl, k.store8 _ _ h⟩
  | eoraExt _ => exact ⟨_, rfl, k.accOp8 _ _ _ h⟩
  | adcaExt _ => exact ⟨_, rfl, k.accOp8 _ _ _ h⟩
  | oraaExt _ => exact ⟨_, rfl, k.accOp8 _ _ _ h⟩
  | addaExt _ => exact ⟨_, rfl, k.accOp8 _ _ _ h⟩
  | cpxExt _ => exact ⟨_, rfl, k.compareX _ h⟩
  | jsrExt _ => exact ⟨_, rfl, k.callSubroutine _ _ h⟩
  | ldsExt _ => exact ⟨_, rfl, k.load16 _ _ h⟩
  | stsExt _ => exact ⟨_, rfl, k.store16 _ _ h⟩
  | subbImm _ => exact ⟨_, rfl, k.accOp8 _ _ _ h⟩
  | cmpbImm _ => exact ⟨_, rfl, k.accTest8 _ _ _ h⟩
  | sbcbImm _ => exact ⟨_, rfl, k.accOp8 _ _ _ h⟩
  | adddImm _ => exact ⟨_, rfl, k.dOp16 _ _ h⟩
  | andbImm _ => exact ⟨_, rfl, k.accOp8 _ _ _ h⟩
  | bitbImm _ => exact ⟨_, rfl, k.accTest8 _ _ _ h⟩
  | ldabImm _ => exact ⟨_, rfl, k.load8 _ _ h⟩
  | eorbImm _ => exact ⟨_, rfl, k.accOp8 _ _ _ h⟩
  | adcbImm _ => exact ⟨_, rfl, k.accOp8 _ _ _ h⟩
  | orabImm _ => exact ⟨_, rfl, k.accOp8 _ _ _ h⟩
  | addbImm _ => exact ⟨_, rfl, k.accOp8 _ _ _ h⟩
  | lddImm _ => exact ⟨_, rfl, k.load16 _ _ h⟩
  | ldxImm _ => exact ⟨_, rfl, k.load16 _ _ h⟩
  | subbDir _ => exact ⟨_, rfl, k.accOp8 _ _ _ h⟩
  | cmpbDir _ => exact ⟨_, rfl, k.accTest8 _ _ _ h⟩
  | sbcbDir _ => exact ⟨_, rfl, k.accOp8 _ _ _ h⟩
  | adddDir _ => exact ⟨_, rfl, k.dOp16 _ _ h⟩
  | andbDir _ => exact ⟨_, rfl, k.accOp8 _ _ _ h⟩
  | bitbDir _ => exact ⟨_, rfl, k.accTest8 _ _ _ h⟩
  | ldabDir _ => exact ⟨_, rfl, k.load8 _ _ h⟩
  | stabDir _ => exact ⟨_, rfl, k.store8 _ _ h⟩
  | eorbDir _ => exact ⟨_, rfl, k.accOp8 _ _ _ h⟩
  | adcbDir _ => exact ⟨_, rfl, k.accOp8 _ _ _ h⟩
  | orabDir _ => exact ⟨_, rfl, k.accOp8 _ _ _ h⟩
  | addbDir _ => exact ⟨_, rfl, k.accOp8 _ _ _ h⟩
  | lddDir _ => exact ⟨_, rfl, k.load16 _ _ h⟩
  | stdDir _ => exact ⟨_, rfl, k.store16 _ _ h⟩
  | ldxDir _ => exact ⟨_, rfl, k.load16 _ _ h⟩
  | stxDir _ => exact ⟨_, rfl, k.store16 _ _ h⟩
  | subbIdx _ => exact ⟨_, rfl, k.accOp8 _ _ _ h⟩
  | cmpbIdx _ => exact ⟨_, rfl, k.accTest8 _ _ _ h⟩
  | sbcbIdx _ => exact ⟨_, rfl, k.accOp8 _ _ _ h⟩
  | adddIdx _ => exact ⟨_, rfl, k.dOp16 _ _ h⟩
  | andbIdx _ => exact ⟨_, rfl, k.accOp8 _ _ _ h⟩
  | bitbIdx _ => exact ⟨_, rfl, k.accTest8 _ _ _ h⟩
  | ldabIdx _ => exact ⟨_, rfl, k.load8 _ _ h⟩
  | stabIdx _ => exact ⟨_, rfl, k.store8 _ _ h⟩
  | eorbIdx _ => exact ⟨_, rfl, k.accOp8 _ _ _ h⟩
  | adcbIdx _ => exact ⟨_, rfl, k.accOp8 _ _ _ h⟩
  | orabIdx _ => exact ⟨_, rfl, k.accOp8 _ _ _ h⟩
  | addbIdx _ => exact ⟨_, rfl, k.accOp8 _ _ _ h⟩
  | lddIdx _ => exact ⟨_, rfl, k.load16 _ _ h⟩
  | stdIdx _ => exact ⟨_, rfl, k.store16 _ _ h⟩
  | ldxIdx _ => exact ⟨_, rfl, k.load16 _ _ h⟩
  | stxIdx _ => exact ⟨_, rfl, k.store16 _ _ h⟩
  | subbExt _ => exact ⟨_, rfl, k.accOp8 _ _ _ h⟩
  | cmpbExt _ => exact ⟨_, rfl, k.accTest8 _ _ _ h⟩
  | sbcbExt _ => exact ⟨_, rfl, k.accOp8 _ _ _ h⟩
  | adddExt _ => exact ⟨_, rfl, k.dOp16 _ _ h⟩
  | andbExt _ => exact ⟨_, rfl, k.accOp8 _ _ _ h⟩
  | bitbExt _ => exact ⟨_, rfl, k.accTest8 _ _ _ h⟩
  | ldabExt _ => exact ⟨_, rfl, k.load8 _ _ h⟩
  | stabExt _ => exact ⟨_, rfl, k.store8 _ _ h⟩
  | eorbExt _ => exact ⟨_, rfl, k.accOp8 _ _ _ h⟩
  | adcbExt _ => exact ⟨_, rfl, k.accOp8 _ _ _ h⟩
  | orabExt _ => exact ⟨_, rfl, k.accOp8 _ _ _ h⟩
  | addbExt _ => exact ⟨_, rfl, k.accOp8 _ _ _ h⟩
  | lddExt _ => exact ⟨_, rfl, k.load16 _ _ h⟩
  | stdExt _ => exact ⟨_, rfl, k.store16 _ _ h⟩
  | ldxExt _ => exact ⟨_, rfl, k.load16 _ _ h⟩
  | stxExt _ => exact ⟨_, rfl, k.store16 _ _ h⟩

end Sys2Proof.Machine
end

