-- ==== Sys2Proof/Laws/Operands.lean ====
section
/-! SUPPORT. What reading an operand can do: a value, and the side effects of reads. -/

namespace Sys2Proof.Machine

open Sys2Proof

/-- A byte read changes at most the peripherals' flags and the count of arbitrary values. -/
theorem memRead_touches (addr : Word) (s : State) :
    ∃ t p n, (memRead addr s).2 = { s with timer := t, serial := p, draws := n } := by
  obtain ⟨n, h⟩ := memRead_state addr s
  exact ⟨_, _, n, h⟩

/-- A word read changes at most the peripherals' flags and the count of arbitrary values. -/
theorem memRead16_touches (addr : Word) (s : State) :
    ∃ t p n, (memRead16 addr s).2 = { s with timer := t, serial := p, draws := n } := by
  obtain ⟨t, p, n, h⟩ := memRead_touches addr s
  obtain ⟨t', p', n', h'⟩ := memRead_touches (addr + 1) (memRead addr s).2
  exact ⟨t', p', n', by unfold memRead16; simp only; rw [h', h]⟩

/-- Reading a byte operand changes at most the peripherals' flags and the count of arbitrary values. -/
theorem operand8_touches (src : Src8) (s : State) :
    ∃ t p n, (operand8 src s).2 = { s with timer := t, serial := p, draws := n } := by
  cases src with
  | imm ii => exact ⟨_, _, _, rfl⟩
  | mem m => exact memRead_touches _ _

/-- Reading a word operand changes at most the peripherals' flags and the count of arbitrary values. -/
theorem operand16_touches (src : Src16) (s : State) :
    ∃ t p n, (operand16 src s).2 = { s with timer := t, serial := p, draws := n } := by
  cases src with
  | imm jjkk => exact ⟨_, _, _, rfl⟩
  | mem m => exact memRead16_touches _ _

/-- A byte write changes at most stored bytes, the peripherals and the PORT events. -/
theorem memWrite_touches (addr : Word) (v : Byte) (s : State) :
    ∃ m t p e, memWrite addr v s = { s with mem := m, timer := t, serial := p, portEvents := e } := by
  have h := memWrite_frame addr v s
  unfold State.withBus at h
  rw [memWrite_draws] at h
  exact ⟨_, _, _, _, h⟩

/-- A word write changes at most stored bytes, the peripherals and the PORT events. -/
theorem memWrite16_touches (addr v : Word) (s : State) :
    ∃ m t p e, memWrite16 addr v s = { s with mem := m, timer := t, serial := p, portEvents := e } := by
  obtain ⟨m, t, p, e, h⟩ := memWrite_touches addr (highByte v) s
  obtain ⟨m', t', p', e', h'⟩ := memWrite_touches (addr + 1) (lowByte v) (memWrite addr (highByte v) s)
  exact ⟨m', t', p', e', by unfold memWrite16; rw [h', h]⟩

/-- Pushing a frame changes at most stored bytes, the peripherals, the PORT events and SP. -/
theorem pushFrame_touches (s : State) :
    ∃ m t p e, pushFrame s = { s with sp := s.sp - 7, mem := m, timer := t, serial := p, portEvents := e } := by
  have h := pushFrame_frame s
  unfold State.withBus at h
  rw [pushFrame_draws] at h
  exact ⟨_, _, _, _, h⟩

end Sys2Proof.Machine
end

