-- ==== Sys2Proof/Laws/Ports.lean ====
section
/-! SUPPORT. What a reset does, said once; what the loop of `run` does, and that it is a chain of turns of the block. -/

namespace Sys2Proof.Machine

open Sys2Proof

/-- The registers and flags a reset leaves: A, B, X, SP and five flags at the nine arbitrary values from the `d`-th on, I at 1,
and nothing else of `s` changed but the count of values drawn. -/
def State.withDrawnCpu (s : State) (d : Nat) : State :=
  { s with
    a := Config.freeByte d
    b := Config.freeByte (d + 1)
    x := Config.freeWord (d + 2)
    sp := Config.freeWord (d + 3)
    ccr :=
      { h := Config.freeBit (d + 4), i := true, n := Config.freeBit (d + 5), z := Config.freeBit (d + 6)
        v := Config.freeBit (d + 7), c := Config.freeBit (d + 8) }
    draws := d + 9 }

/-- A reset draws nine values. -/
theorem drawCpu_eq (s : State) : drawCpu s = s.withDrawnCpu s.draws := by
  simp only [drawCpu, State.drawByte, State.drawWord, State.drawBit, State.withDrawnCpu]

/-- The part common to both resets: the nine values, the crashed flag, the wait state and the shadow of a CLI cleared, pc
the word at $FFFE. -/
theorem cpuReset_eq (s : State) :
    cpuReset s = { s.withDrawnCpu s.draws with
      crashed := false, waitState := .run, cliShadow := false, pc := s.mem.read 0xFFFE ++ s.mem.read 0xFFFF } := by
  have h1 : region vecRes = .rom := by decide
  have h2 : region (vecRes + 1) = .rom := by decide
  unfold cpuReset
  rw [drawCpu_eq]
  simp only [memRead16_rom _ _ h1 h2]
  rfl

/-- The cold reset: the common part over clear RAM, peripherals at their defaults and an arbitrary phase. -/
theorem coldReset_eq (s : State) :
    coldReset s = cpuReset { s with
      mem := s.mem.clearRam, timer := coldTimer, serial := coldSerial, phase := Config.freePhase s.draws
      draws := s.draws + 1 } :=
  rfl

/-- The loop of `run` stops at a crashed core. -/
theorem runLoop_crashed (p : Params) (fuel : Nat) (budget : Int) (consumed : Nat) (s : State) (h : s.crashed = true) :
    runLoop p fuel budget consumed s = .next (consumed, s) := by
  cases fuel <;> simp [runLoop, h]

/-- Nothing is latched without a pause request. -/
theorem latchPause_eq (s : State) (h : s.pauseReq = false) : latchPause s = s := by
  cases s
  cases h
  simp [latchPause]

/-- `run` without a pause request is the loop, and the count of it. -/
theorem run_eq (p : Params) (budget : Int) (s : State) (h : s.pauseReq = false) (h' : s.paused = false) :
    run p budget s =
      match runLoop p budget.toNat budget 0 s with
      | .next r => .next (r.1, addCycles r.1 r.2)
      | .fault e => .fault e
      | .refused e => .refused e := by
  cases s
  cases h
  cases h'
  rfl

/-- `run` under a pause request or while paused. -/
theorem run_paused (p : Params) (budget : Int) (s : State) (h : s.paused = true ∨ s.pauseReq = true) :
    run p budget s = .next (0, { s with paused := true }) := by
  rcases h with h | h <;> simp [run, latchPause, h]

/-- All that a host's call can do: it was admitted, and the block is as the port left its state. -/
theorem hostCall_next {p : Params} {call : PortCall} {b c : Block} {r : PortResult}
    (h : hostCall p call b = .next (r, c)) :
    call.admitted b = true ∧ callPort p call b.state = .next (r, c.state) ∧ c.batch = b.batch := by
  rw [hostCall] at h
  split at h
  · rename_i ha
    split at h
    · rename_i u hu
      cases h
      exact ⟨ha, hu, rfl⟩
    all_goals exact absurd h (by simp)
  · exact absurd h (by simp)

/-- A call the host may not make is refused. -/
theorem hostCall_refused {p : Params} {call : PortCall} {b : Block} (h : call.admitted b = false) :
    hostCall p call b = .refused .portNotAdmitted := by
  simp [hostCall, h]

/-- The loop of `run` is a chain of turns: what it answers, the turns of a run in progress reach. -/
theorem runLoop_turns (p : Params) (fuel : Nat) (budget : Int) :
    ∀ (consumed r : Nat) (s t : State), runLoop p fuel budget consumed s = .next (r, t) →
      Relation.ReflTransGen (Transition p)
        { state := s, batch := some { budget := budget, consumed := consumed } }
        { state := t, batch := some { budget := budget, consumed := r } } := by
  induction fuel with
  | zero =>
    intro consumed r s t h
    cases h
    exact .refl
  | succ n ih =>
    intro consumed r s t h
    rw [runLoop] at h
    split at h
    · rename_i hc
      split at h
      · rename_i u hu
        refine .head (.turn _ _ _ ?_) (ih _ _ _ _ h)
        simp only [turn, if_pos hc, hu]
      · exact absurd h (by simp)
      · exact absurd h (by simp)
    · cases h
      exact .refl

/-- A run that has met its budget, or whose core is crashed, ends at its next turn. -/
theorem turn_end (p : Params) (b : Batch) (s : State) (h : b.budget ≤ b.consumed ∨ s.crashed = true) :
    turn p b s = .next { state := addCycles b.consumed s, batch := none } := by
  have hn : ¬(((b.consumed : Int) < b.budget && !s.crashed) = true) := by
    rcases h with h | h
    · simp [h]
    · simp [h]
  rw [turn, if_neg hn]

/-- A state that has finished waiting is not stuck. -/
theorem State.FinishedWaiting.not_stuck {s : State} (h : s.FinishedWaiting) : ¬ s.Stuck := by
  intro hs
  have := hs.2.2
  simp [h.2.2.1] at this

end Sys2Proof.Machine
end

