-- ==== Sys2Proof/Laws/Step.lean ====
section
/-! SUPPORT. The step, case by case of the wait state, and what every step keeps. -/

namespace Sys2Proof.Machine

open Sys2Proof

/-! ### The cases of a step (60_exceptions.md R313) -/

@[simp] theorem State.masked_eq (s : State) : s.masked = s.ccr.i := by
  simp [State.masked]

@[simp] theorem State.noteUnmask_eq (s : State) (i : Instr) : s.noteUnmask i = s := rfl

/-- The vector of the pending source: the timer's first (60_exceptions.md R304, R308). -/
theorem State.pendingVector_eq (s : State) :
    s.pendingVector = if s.timer.irq then some vecOcf else if s.serial.irq then some vecSci else none := rfl

/-- The step of the host's machine is the step under the default parameters. -/
theorem step_eq : step = stepWith Params.default := rfl

/-- An illegal opcode costs nothing, whatever the costs are. -/
theorem Params.cost_illegal (p : Params) (op : Byte) (h : (p.isaTable op).isIllegal = true) : p.cost op = 0 := by
  rw [Params.cost, if_pos h]

/-- A defined opcode costs what the costs say. -/
theorem Params.cost_legal (p : Params) (op : Byte) (h : (p.isaTable op).isIllegal = false) :
    p.cost op = p.opcodeCycles op := by
  rw [Params.cost, if_neg (by simp [h])]

/-- The default cost of an opcode is its entry of the default table, which holds 0 for an illegal one. -/
theorem Params.default_cost (op : Byte) : Params.default.cost op = defaultOpcodeCycles op := by
  revert op
  decide

theorem stepCounted_crashed (p : Params) (s : State) (h : s.crashed = true) : stepCounted p s = .next (s, 0) := by
  unfold stepCounted
  rw [if_pos h]

theorem stepCounted_run (p : Params) (s : State) (hc : s.crashed = false) (hw : s.waitState = .run) :
    stepCounted p s = boundary p s.pendingVector s := by
  unfold stepCounted
  rw [if_neg (by simp [hc])]
  split
  · rfl
  · rename_i h; rw [hw] at h; exact absurd h (by decide)
  · rename_i h; rw [hw] at h; exact absurd h (by decide)

theorem stepCounted_wai (p : Params) (s : State) (hc : s.crashed = false) (hw : s.waitState = .wai) :
    stepCounted p s =
      match s.pendingVector with
      | none => .next (spend p.idleCycles s)
      | some v =>
        if s.ccr.i then .next (spend p.idleCycles s)
        else .next (spend p.waiExitCycles (enterHandler v { s with waitState := .run })) := by
  unfold stepCounted
  rw [if_neg (by simp [hc])]
  split
  · rename_i h; rw [hw] at h; exact absurd h (by decide)
  · rfl
  · rename_i h; rw [hw] at h; exact absurd h (by decide)

theorem stepCounted_slp (p : Params) (s : State) (hc : s.crashed = false) (hw : s.waitState = .slp) :
    stepCounted p s =
      match s.pendingVector with
      | none => .next (spend p.idleCycles s)
      | some v => boundary p (some v) { s with waitState := .run } := by
  unfold stepCounted
  rw [if_neg (by simp [hc])]
  split
  · rename_i h; rw [hw] at h; exact absurd h (by decide)
  · rename_i h; rw [hw] at h; exact absurd h (by decide)
  · rfl

/-- The step is the counted step without the count. -/
theorem stepWith_of_counted (p : Params) (s t : State) (n : Nat) (h : stepCounted p s = .next (t, n)) :
    stepWith p s = .next t := by
  rw [stepWith, h]
  rfl

theorem boundary_dispatch (p : Params) (v : Word) (s : State) (h : s.ccr.i = false) :
    boundary p (some v) s = .next (spend p.dispatchCycles (takeInterrupt v s)) := by
  unfold boundary
  simp only
  rw [if_neg (by simp [h])]

theorem boundary_execute (p : Params) (vec : Option Word) (s : State) (h : vec = none ∨ s.ccr.i = true) :
    boundary p vec s = executeNext p s := by
  unfold boundary
  split
  · rfl
  · rename_i v
    rcases h with h | h
    · exact absurd h (by simp)
    · rw [if_pos (by simp [h])]

/-! ### The fetch -/

/-- The fetch keeps what reads keep. -/
theorem fetch_kept {P : State → Prop} (k : Kept P) (t : IsaTable) (s : State) (h : P s) : P (fetch t s).after := by
  have h1 := k.read s.pc s h
  unfold fetch
  simp only
  split <;> split
  · exact k.read _ _ (k.read _ _ h1)
  · exact k.read _ _ h1
  · exact k.read _ _ h1
  · exact h1

/-- The tick of a state touches the counter and OCF alone. -/
theorem State.tick_eq (s : State) (n : Nat) : s.tick n = { s with timer := s.timer.tick n } :=
  rfl

/-- A step keeps what register changes, reads, writes and draws, the tick, the wait states and the crashed flag keep; and it
always answers a next state. -/
theorem stepCounted_kept {P : State → Prop} (k : Kept P) (p : Params) (s : State) (h : P s)
    (hwait : ∀ (w : WaitState) (u : State), P u → P { u with waitState := w })
    (hcrash : ∀ u : State, P u → P { u with crashed := true }) (htick : ∀ (n : Nat) (u : State), P u → P (u.tick n)) :
    ∃ t n, stepCounted p s = .next (t, n) ∧ P t := by
  have execute : ∀ u : State, P u → ∃ t n, executeNext p u = .next (t, n) ∧ P t := by
    intro u hu
    have hf := fetch_kept k p.isaTable u hu
    obtain ⟨t, e, ht⟩ := exec_kept k (fetch p.isaTable u).instr (fetch p.isaTable u).after hf hwait fun _ _ => hcrash _ hf
    exact ⟨_, _, by unfold executeNext; simp only [e]; rfl, htick _ _ ht⟩
  have bound : ∀ (vec : Option Word) (u : State), P u → ∃ t n, boundary p vec u = .next (t, n) ∧ P t := by
    intro vec u hu
    unfold boundary
    split
    · exact execute u hu
    · split
      · exact execute u hu
      · exact ⟨_, _, rfl, htick _ _ (k.takeInterrupt _ hu)⟩
  unfold stepCounted
  split
  · exact ⟨s, 0, rfl, h⟩
  split
  · exact bound _ s h
  · split
    · exact ⟨_, _, rfl, htick _ _ h⟩
    · split
      · exact ⟨_, _, rfl, htick _ _ h⟩
      · exact ⟨_, _, rfl, htick _ _ (k.enterHandler _ (hwait _ _ h))⟩
  · split
    · exact ⟨_, _, rfl, htick _ _ h⟩
    · exact bound _ _ (hwait _ _ h)

end Sys2Proof.Machine
end

