-- ==== Sys2Proof/Tests/Slice0.lean ====
section
/-! SUPPORT. The model's own tests: well-formedness, the encodings written out, one step of each instruction with the
expected values of 95_test_vectors.md, the peripherals and the ports; and witnesses that the hypotheses of the statements
can be met. -/

namespace Sys2Proof.Tests

open Sys2Proof Sys2Proof.Machine Sys2Proof.Claims

/-! ### Helpers -/

/-- The start state of the vectors: SP = $00FF, I = 1, pc = $F000, all else 0 (95_test_vectors.md section 2). -/
def start : State :=
  { State.reset with sp := 0x00FF, pc := 0xF000 }

/-- A state with bytes at $F000. -/
def withCode (bytes : List Byte) (s : State) : State :=
  { s with mem := Memory.load bytes 0xF000 s.mem }

/-- The flags as a number, H I N Z V C from bit 5 on. -/
def flagNumber (f : Ccr) : Nat :=
  32 * f.h.toNat + 16 * f.i.toNat + 8 * f.n.toNat + 4 * f.z.toNat + 2 * f.v.toNat + f.c.toNat

/-- The flags of a state as a number. -/
def flagsOf (t : State) : Nat :=
  flagNumber t.ccr

/-- The flags of a state as a number, V left out. -/
def flagsButV (t : State) : Nat :=
  flagNumber { t.ccr with v := false }

/-- The wait state as a number: 0 RUN, 1 WAI, 2 SLP. -/
def waitCode (t : State) : Nat :=
  match t.waitState with
  | .run => 0
  | .wai => 1
  | .slp => 2

/-- One step with bytes at $F000: what is seen of the state after it, then pc and the cycles consumed. -/
def runs (bytes : List Byte) (s : State) (see : State → List Nat) : Option (List Nat) :=
  match stepCounted Params.default (withCode bytes s) with
  | .next t => some (see t.1 ++ [t.1.pc.toNat, t.2])
  | .fault _ => none
  | .refused _ => none

/-- Bytes that decode to an instruction and are its encoding. -/
def codes (p : List Byte × Instr) : Bool :=
  match decode p.1 with
  | .ok r => decide (r.1 = p.2) && r.2.isEmpty && encode p.2 == p.1 && p.2.wellFormed
  | .error _ => false

/-! ### Well-formedness -/

/-- `illegal` carries one of the 26 bytes of R104 and no other. -/
theorem test_illegal_defined_byte_is_ill_formed :
    (Instr.illegal 0x01).wellFormed = false ∧ (Instr.illegal 0x3F).wellFormed = false ∧
      (Instr.illegal 0xFF).wellFormed = false := by decide

theorem test_illegal_r104_byte_is_well_formed :
    (Instr.illegal 0x00).wellFormed = true ∧ (Instr.illegal 0xCF).wellFormed = true := by decide

theorem test_twenty_six_illegal_bytes :
    ((List.range 256).filter fun n => (Instr.illegal (BitVec.ofNat 8 n)).wellFormed).length = 26 := by decide

/-! ### Decoding: the words of the opcode map, written out from the encodings (30_encoding.md R92 to R104) -/

theorem test_codes_row_0 :
    [
      ([0b00000000], .illegal 0b00000000),
      ([0b00000001], .nop),
      ([0b00000010], .illegal 0b00000010),
      ([0b00000011], .illegal 0b00000011),
      ([0b00000100], .lsrd),
      ([0b00000101], .asld),
      ([0b00000110], .tap),
      ([0b00000111], .tpa),
      ([0b00001000], .inx),
      ([0b00001001], .dex),
      ([0b00001010], .clv),
      ([0b00001011], .sev),
      ([0b00001100], .clc),
      ([0b00001101], .sec),
      ([0b00001110], .cli),
      ([0b00001111], .sei) ].all codes = true := by decide

theorem test_codes_row_1 :
    [
      ([0b00010000], .sba),
      ([0b00010001], .cba),
      ([0b00010010], .illegal 0b00010010),
      ([0b00010011], .illegal 0b00010011),
      ([0b00010100], .illegal 0b00010100),
      ([0b00010101], .illegal 0b00010101),
      ([0b00010110], .tab),
      ([0b00010111], .tba),
      ([0b00011000], .xgdx),
      ([0b00011001], .daa),
      ([0b00011010], .slp),
      ([0b00011011], .aba),
      ([0b00011100], .illegal 0b00011100),
      ([0b00011101], .illegal 0b00011101),
      ([0b00011110], .illegal 0b00011110),
      ([0b00011111], .illegal 0b00011111) ].all codes = true := by decide

theorem test_codes_row_2 :
    [
      ([0b00100000, 0xA5], .bra 0xA5),
      ([0b00100001, 0xA5], .brn 0xA5),
      ([0b00100010, 0xA5], .bhi 0xA5),
      ([0b00100011, 0xA5], .bls 0xA5),
      ([0b00100100, 0xA5], .bcc 0xA5),
      ([0b00100101, 0xA5], .bcs 0xA5),
      ([0b00100110, 0xA5], .bne 0xA5),
      ([0b00100111, 0xA5], .beq 0xA5),
      ([0b00101000, 0xA5], .bvc 0xA5),
      ([0b00101001, 0xA5], .bvs 0xA5),
      ([0b00101010, 0xA5], .bpl 0xA5),
      ([0b00101011, 0xA5], .bmi 0xA5),
      ([0b00101100, 0xA5], .bge 0xA5),
      ([0b00101101, 0xA5], .blt 0xA5),
      ([0b00101110, 0xA5], .bgt 0xA5),
      ([0b00101111, 0xA5], .ble 0xA5) ].all codes = true := by decide

theorem test_codes_row_3 :
    [
      ([0b00110000], .tsx),
      ([0b00110001], .ins),
      ([0b00110010], .pula),
      ([0b00110011], .pulb),
      ([0b00110100], .des),
      ([0b00110101], .txs),
      ([0b00110110], .psha),
      ([0b00110111], .pshb),
      ([0b00111000], .pulx),
      ([0b00111001], .rts),
      ([0b00111010], .abx),
      ([0b00111011], .rti),
      ([0b00111100], .pshx),
      ([0b00111101], .mul),
      ([0b00111110], .wai),
      ([0b00111111], .swi) ].all codes = true := by decide

theorem test_codes_row_4 :
    [
      ([0b01000000], .nega),
      ([0b01000001], .illegal 0b01000001),
      ([0b01000010], .illegal 0b01000010),
      ([0b01000011], .coma),
      ([0b01000100], .lsra),
      ([0b01000101], .illegal 0b01000101),
      ([0b01000110], .rora),
      ([0b01000111], .asra),
      ([0b01001000], .asla),
      ([0b01001001], .rola),
      ([0b01001010], .deca),
      ([0b01001011], .illegal 0b01001011),
      ([0b01001100], .inca),
      ([0b01001101], .tsta),
      ([0b01001110], .illegal 0b01001110),
      ([0b01001111], .clra) ].all codes = true := by decide

theorem test_codes_row_5 :
    [
      ([0b01010000], .negb),
      ([0b01010001], .illegal 0b01010001),
      ([0b01010010], .illegal 0b01010010),
      ([0b01010011], .comb),
      ([0b01010100], .lsrb),
      ([0b01010101], .illegal 0b01010101),
      ([0b01010110], .rorb),
      ([0b01010111], .asrb),
      ([0b01011000], .aslb),
      ([0b01011001], .rolb),
      ([0b01011010], .decb),
      ([0b01011011], .illegal 0b01011011),
      ([0b01011100], .incb),
      ([0b01011101], .tstb),
      ([0b01011110], .illegal 0b01011110),
      ([0b01011111], .clrb) ].all codes = true := by decide

theorem test_codes_row_6 :
    [
      ([0b01100000, 0xA5], .negIdx 0xA5),
      ([0b01100001, 0x12, 0x34], .aimIdx 0x12 0x34),
      ([0b01100010, 0x12, 0x34], .oimIdx 0x12 0x34),
      ([0b01100011, 0xA5], .comIdx 0xA5),
      ([0b01100100, 0xA5], .lsrIdx 0xA5),
      ([0b01100101, 0x12, 0x34], .eimIdx 0x12 0x34),
      ([0b01100110, 0xA5], .rorIdx 0xA5),
      ([0b01100111, 0xA5], .asrIdx 0xA5),
      ([0b01101000, 0xA5], .aslIdx 0xA5),
      ([0b01101001, 0xA5], .rolIdx 0xA5),
      ([0b01101010, 0xA5], .decIdx 0xA5),
      ([0b01101011, 0x12, 0x34], .timIdx 0x12 0x34),
      ([0b01101100, 0xA5], .incIdx 0xA5),
      ([0b01101101, 0xA5], .tstIdx 0xA5),
      ([0b01101110, 0xA5], .jmpIdx 0xA5),
      ([0b01101111, 0xA5], .clrIdx 0xA5) ].all codes = true := by decide

theorem test_codes_row_7 :
    [
      ([0b01110000, 0x12, 0x34], .negExt 0x1234),
      ([0b01110001, 0x12, 0x34], .aimDir 0x12 0x34),
      ([0b01110010, 0x12, 0x34], .oimDir 0x12 0x34),
      ([0b01110011, 0x12, 0x34], .comExt 0x1234),
      ([0b01110100, 0x12, 0x34], .lsrExt 0x1234),
      ([0b01110101, 0x12, 0x34], .eimDir 0x12 0x34),
      ([0b01110110, 0x12, 0x34], .rorExt 0x1234),
      ([0b01110111, 0x12, 0x34], .asrExt 0x1234),
      ([0b01111000, 0x12, 0x34], .aslExt 0x1234),
      ([0b01111001, 0x12, 0x34], .rolExt 0x1234),
      ([0b01111010, 0x12, 0x34], .decExt 0x1234),
      ([0b01111011, 0x12, 0x34], .timDir 0x12 0x34),
      ([0b01111100, 0x12, 0x34], .incExt 0x1234),
      ([0b01111101, 0x12, 0x34], .tstExt 0x1234),
      ([0b01111110, 0x12, 0x34], .jmpExt 0x1234),
      ([0b01111111, 0x12, 0x34], .clrExt 0x1234) ].all codes = true := by decide

theorem test_codes_row_8 :
    [
      ([0b10000000, 0xA5], .subaImm 0xA5),
      ([0b10000001, 0xA5], .cmpaImm 0xA5),
      ([0b10000010, 0xA5], .sbcaImm 0xA5),
      ([0b10000011, 0x12, 0x34], .subdImm 0x1234),
      ([0b10000100, 0xA5], .andaImm 0xA5),
      ([0b10000101, 0xA5], .bitaImm 0xA5),
      ([0b10000110, 0xA5], .ldaaImm 0xA5),
      ([0b10000111], .illegal 0b10000111),
      ([0b10001000, 0xA5], .eoraImm 0xA5),
      ([0b10001001, 0xA5], .adcaImm 0xA5),
      ([0b10001010, 0xA5], .oraaImm 0xA5),
      ([0b10001011, 0xA5], .addaImm 0xA5),
      ([0b10001100, 0x12, 0x34], .cpxImm 0x1234),
      ([0b10001101, 0xA5], .bsr 0xA5),
      ([0b10001110, 0x12, 0x34], .ldsImm 0x1234),
      ([0b10001111], .illegal 0b10001111) ].all codes = true := by decide

theorem test_codes_row_9 :
    [
      ([0b10010000, 0xA5], .subaDir 0xA5),
      ([0b10010001, 0xA5], .cmpaDir 0xA5),
      ([0b10010010, 0xA5], .sbcaDir 0xA5),
      ([0b10010011, 0xA5], .subdDir 0xA5),
      ([0b10010100, 0xA5], .andaDir 0xA5),
      ([0b10010101, 0xA5], .bitaDir 0xA5),
      ([0b10010110, 0xA5], .ldaaDir 0xA5),
      ([0b10010111, 0xA5], .staaDir 0xA5),
      ([0b10011000, 0xA5], .eoraDir 0xA5),
      ([0b10011001, 0xA5], .adcaDir 0xA5),
      ([0b10011010, 0xA5], .oraaDir 0xA5),
      ([0b10011011, 0xA5], .addaDir 0xA5),
      ([0b10011100, 0xA5], .cpxDir 0xA5),
      ([0b10011101, 0xA5], .jsrDir 0xA5),
      ([0b10011110, 0xA5], .ldsDir 0xA5),
      ([0b10011111, 0xA5], .stsDir 0xA5) ].all codes = true := by decide

theorem test_codes_row_A :
    [
      ([0b10100000, 0xA5], .subaIdx 0xA5),
      ([0b10100001, 0xA5], .cmpaIdx 0xA5),
      ([0b10100010, 0xA5], .sbcaIdx 0xA5),
      ([0b10100011, 0xA5], .subdIdx 0xA5),
      ([0b10100100, 0xA5], .andaIdx 0xA5),
      ([0b10100101, 0xA5], .bitaIdx 0xA5),
      ([0b10100110, 0xA5], .ldaaIdx 0xA5),
      ([0b10100111, 0xA5], .staaIdx 0xA5),
      ([0b10101000, 0xA5], .eoraIdx 0xA5),
      ([0b10101001, 0xA5], .adcaIdx 0xA5),
      ([0b10101010, 0xA5], .oraaIdx 0xA5),
      ([0b10101011, 0xA5], .addaIdx 0xA5),
      ([0b10101100, 0xA5], .cpxIdx 0xA5),
      ([0b10101101, 0xA5], .jsrIdx 0xA5),
      ([0b10101110, 0xA5], .ldsIdx 0xA5),
      ([0b10101111, 0xA5], .stsIdx 0xA5) ].all codes = true := by decide

theorem test_codes_row_B :
    [
      ([0b10110000, 0x12, 0x34], .subaExt 0x1234),
      ([0b10110001, 0x12, 0x34], .cmpaExt 0x1234),
      ([0b10110010, 0x12, 0x34], .sbcaExt 0x1234),
      ([0b10110011, 0x12, 0x34], .subdExt 0x1234),
      ([0b10110100, 0x12, 0x34], .andaExt 0x1234),
      ([0b10110101, 0x12, 0x34], .bitaExt 0x1234),
      ([0b10110110, 0x12, 0x34], .ldaaExt 0x1234),
      ([0b10110111, 0x12, 0x34], .staaExt 0x1234),
      ([0b10111000, 0x12, 0x34], .eoraExt 0x1234),
      ([0b10111001, 0x12, 0x34], .adcaExt 0x1234),
      ([0b10111010, 0x12, 0x34], .oraaExt 0x1234),
      ([0b10111011, 0x12, 0x34], .addaExt 0x1234),
      ([0b10111100, 0x12, 0x34], .cpxExt 0x1234),
      ([0b10111101, 0x12, 0x34], .jsrExt 0x1234),
      ([0b10111110, 0x12, 0x34], .ldsExt 0x1234),
      ([0b10111111, 0x12, 0x34], .stsExt 0x1234) ].all codes = true := by decide

theorem test_codes_row_C :
    [
      ([0b11000000, 0xA5], .subbImm 0xA5),
      ([0b11000001, 0xA5], .cmpbImm 0xA5),
      ([0b11000010, 0xA5], .sbcbImm 0xA5),
      ([0b11000011, 0x12, 0x34], .adddImm 0x1234),
      ([0b11000100, 0xA5], .andbImm 0xA5),
      ([0b11000101, 0xA5], .bitbImm 0xA5),
      ([0b11000110, 0xA5], .ldabImm 0xA5),
      ([0b11000111], .illegal 0b11000111),
      ([0b11001000, 0xA5], .eorbImm 0xA5),
      ([0b11001001, 0xA5], .adcbImm 0xA5),
      ([0b11001010, 0xA5], .orabImm 0xA5),
      ([0b11001011, 0xA5], .addbImm 0xA5),
      ([0b11001100, 0x12, 0x34], .lddImm 0x1234),
      ([0b11001101], .illegal 0b11001101),
      ([0b11001110, 0x12, 0x34], .ldxImm 0x1234),
      ([0b11001111], .illegal 0b11001111) ].all codes = true := by decide

theorem test_codes_row_D :
    [
      ([0b11010000, 0xA5], .subbDir 0xA5),
      ([0b11010001, 0xA5], .cmpbDir 0xA5),
      ([0b11010010, 0xA5], .sbcbDir 0xA5),
      ([0b11010011, 0xA5], .adddDir 0xA5),
      ([0b11010100, 0xA5], .andbDir 0xA5),
      ([0b11010101, 0xA5], .bitbDir 0xA5),
      ([0b11010110, 0xA5], .ldabDir 0xA5),
      ([0b11010111, 0xA5], .stabDir 0xA5),
      ([0b11011000, 0xA5], .eorbDir 0xA5),
      ([0b11011001, 0xA5], .adcbDir 0xA5),
      ([0b11011010, 0xA5], .orabDir 0xA5),
      ([0b11011011, 0xA5], .addbDir 0xA5),
      ([0b11011100, 0xA5], .lddDir 0xA5),
      ([0b11011101, 0xA5], .stdDir 0xA5),
      ([0b11011110, 0xA5], .ldxDir 0xA5),
      ([0b11011111, 0xA5], .stxDir 0xA5) ].all codes = true := by decide

theorem test_codes_row_E :
    [
      ([0b11100000, 0xA5], .subbIdx 0xA5),
      ([0b11100001, 0xA5], .cmpbIdx 0xA5),
      ([0b11100010, 0xA5], .sbcbIdx 0xA5),
      ([0b11100011, 0xA5], .adddIdx 0xA5),
      ([0b11100100, 0xA5], .andbIdx 0xA5),
      ([0b11100101, 0xA5], .bitbIdx 0xA5),
      ([0b11100110, 0xA5], .ldabIdx 0xA5),
      ([0b11100111, 0xA5], .stabIdx 0xA5),
      ([0b11101000, 0xA5], .eorbIdx 0xA5),
      ([0b11101001, 0xA5], .adcbIdx 0xA5),
      ([0b11101010, 0xA5], .orabIdx 0xA5),
      ([0b11101011, 0xA5], .addbIdx 0xA5),
      ([0b11101100, 0xA5], .lddIdx 0xA5),
      ([0b11101101, 0xA5], .stdIdx 0xA5),
      ([0b11101110, 0xA5], .ldxIdx 0xA5),
      ([0b11101111, 0xA5], .stxIdx 0xA5) ].all codes = true := by decide

theorem test_codes_row_F :
    [
      ([0b11110000, 0x12, 0x34], .subbExt 0x1234),
      ([0b11110001, 0x12, 0x34], .cmpbExt 0x1234),
      ([0b11110010, 0x12, 0x34], .sbcbExt 0x1234),
      ([0b11110011, 0x12, 0x34], .adddExt 0x1234),
      ([0b11110100, 0x12, 0x34], .andbExt 0x1234),
      ([0b11110101, 0x12, 0x34], .bitbExt 0x1234),
      ([0b11110110, 0x12, 0x34], .ldabExt 0x1234),
      ([0b11110111, 0x12, 0x34], .stabExt 0x1234),
      ([0b11111000, 0x12, 0x34], .eorbExt 0x1234),
      ([0b11111001, 0x12, 0x34], .adcbExt 0x1234),
      ([0b11111010, 0x12, 0x34], .orabExt 0x1234),
      ([0b11111011, 0x12, 0x34], .addbExt 0x1234),
      ([0b11111100, 0x12, 0x34], .lddExt 0x1234),
      ([0b11111101, 0x12, 0x34], .stdExt 0x1234),
      ([0b11111110, 0x12, 0x34], .ldxExt 0x1234),
      ([0b11111111, 0x12, 0x34], .stxExt 0x1234) ].all codes = true := by decide

/-! ### Loads, stores, transfers, the stack: one step each, from the tables of 95_test_vectors.md section 2 -/

/-- LDAA (R120): indexed address wraps: $FFFF + $81 = $0080. -/
theorem test_ldaa :
    runs [0xA6, 0x81] { start with x := 0xFFFF, mem := [(0x0080, 0x5A)] }
      (fun t => [t.a.toNat, flagsOf t]) = some [0x5A, 0b010000, 0xF002, 4] := by decide

/-- LDD (R122): LDD indexed: high byte from lower address. -/
theorem test_ldd :
    runs [0xEC, 0x7F] { start with x := 0x0001, mem := [(0x0080, 0x12), (0x0081, 0x34)] }
      (fun t => [t.a.toNat, t.b.toNat, flagsOf t]) = some [0x12, 0x34, 0b010000, 0xF002, 5] := by decide

/-- LDX (R123): LDX extended from the reset vector bytes (ROM read; both zero here). -/
theorem test_ldx :
    runs [0xFE, 0xFF, 0xFE] start
      (fun t => [t.a.toNat, t.b.toNat, t.x.toNat, flagsOf t]) = some [0x0, 0x0, 0x0, 0b010100, 0xF003, 5] := by decide

/-- LDS (R124): LDS immediate, N from bit 15. -/
theorem test_lds :
    runs [0x8E, 0x80, 0x00] start
      (fun t => [t.sp.toNat, flagsOf t]) = some [0x8000, 0b011000, 0xF003, 3] := by decide

/-- STAA (R125): store to ROM: no memory change, flags still set. -/
theorem test_staa :
    runs [0xB7, 0xF0, 0x00] { start with a := 0x55 }
      (fun t => [t.a.toNat, t.b.toNat, (t.mem.read 0xF000).toNat, flagsOf t]) =
      some [0x55, 0x0, 0xB7, 0b010000, 0xF003, 4] := by decide

/-- STD (R127): STD at $00FF: high byte to RAM, low byte to unmapped $0100 is lost. -/
theorem test_std :
    runs [0xDD, 0xFF] { start with a := 0x12, b := 0x34 }
      (fun t => [(t.mem.read 0x00FF).toNat, flagsOf t]) = some [0x12, 0b010000, 0xF002, 4] := by decide

/-- STX (R128): STX of zero: Z=1. -/
theorem test_stx :
    runs [0xDF, 0x80] { start with x := 0x0000 }
      (fun t => [(t.mem.read 0x0080).toNat, (t.mem.read 0x0081).toNat, flagsOf t]) =
      some [0x0, 0x0, 0b010100, 0xF002, 4] := by decide

/-- STS (R129): STS stores SP itself, not SP+1. -/
theorem test_sts :
    runs [0x9F, 0x82] { start with sp := 0x00F0 }
      (fun t => [(t.mem.read 0x0082).toNat, (t.mem.read 0x0083).toNat, flagsOf t]) =
      some [0x0, 0xF0, 0b010000, 0xF002, 4] := by decide

/-- TAB (R130): TAB of zero: Z=1, V cleared. -/
theorem test_tab :
    runs [0x16] { start with a := 0x00, b := 0x7F, ccr := .ofByte 0b11010010 }
      (fun t => [t.b.toNat, t.a.toNat, flagsOf t]) = some [0x0, 0x0, 0b010100, 0xF001, 1] := by decide

/-- TSX (R132): TSX wraps: X = SP + 1 = $0000. -/
theorem test_tsx :
    runs [0x30] { start with sp := 0xFFFF, x := 0x1234 }
      (fun t => [t.x.toNat, flagsOf t]) = some [0x0, 0b010000, 0xF001, 1] := by decide

/-- TXS (R133): TXS wraps: SP = X - 1 = $FFFF. -/
theorem test_txs :
    runs [0x35] { start with x := 0x0000 }
      (fun t => [t.sp.toNat, flagsOf t]) = some [0xFFFF, 0b010000, 0xF001, 1] := by decide

/-- XGDX (R134): XGDX: no flags change. -/
theorem test_xgdx :
    runs [0x18] { start with a := 0x12, b := 0x34, x := 0xABCD, ccr := .ofByte 0b11011001 }
      (fun t => [t.a.toNat, t.b.toNat, t.x.toNat, flagsOf t]) =
      some [0xAB, 0xCD, 0x1234, 0b011001, 0xF001, 2] := by decide

/-- PSHA (R135): push at SP=$0000 writes P1DDR (unowned, ignored) and SP wraps to $FFFF. -/
theorem test_psha :
    runs [0x36] { start with a := 0x77, sp := 0x0000 }
      (fun t => [t.sp.toNat, flagsOf t]) = some [0xFFFF, 0b010000, 0xF001, 4] := by decide

/-- PSHA (R135): push at the bottom of RAM: SP goes to $007F (unmapped). -/
theorem test_psha_again :
    runs [0x36] { start with a := 0x77, sp := 0x0080 }
      (fun t => [t.sp.toNat, (t.mem.read 0x0080).toNat, flagsOf t]) =
      some [0x7F, 0x77, 0b010000, 0xF001, 4] := by decide

/-- PULA (R138): PULA: pre-increment then read. -/
theorem test_pula :
    runs [0x32] { start with sp := 0x00FD, mem := [(0x00FE, 0xA5)] }
      (fun t => [t.a.toNat, t.sp.toNat, flagsOf t]) = some [0xA5, 0xFE, 0b010000, 0xF001, 3] := by decide

/-- PSHX (R137): PSHX: low byte at the higher address. -/
theorem test_pshx :
    runs [0x3C] { start with x := 0x1234, sp := 0x00FF }
      (fun t => [t.sp.toNat, (t.mem.read 0x00FF).toNat, (t.mem.read 0x00FE).toNat, flagsOf t]) =
      some [0xFD, 0x34, 0x12, 0b010000, 0xF001, 5] := by decide

/-- PULX (R140): PULX: high byte first. -/
theorem test_pulx :
    runs [0x38] { start with sp := 0x00FD, mem := [(0x00FE, 0x12), (0x00FF, 0x34)] }
      (fun t => [t.x.toNat, t.sp.toNat, flagsOf t]) = some [0x1234, 0xFF, 0b010000, 0xF001, 4] := by decide

/-- CLRA (R141): CLRA: N=0 Z=1 V=0 C=0, H kept. -/
theorem test_clra :
    runs [0x4F] { start with a := 0xFF, ccr := .ofByte 0b11111011 }
      (fun t => [t.a.toNat, flagsOf t]) = some [0x0, 0b110100, 0xF001, 1] := by decide

/-- CLR (R143): CLR memory, extended. -/
theorem test_clr :
    runs [0x7F, 0x00, 0x80] { start with ccr := .ofByte 0b11010001, mem := [(0x0080, 0xFF)] }
      (fun t => [(t.mem.read 0x0080).toNat, flagsOf t]) = some [0x0, 0b010100, 0xF003, 5] := by decide

/-- LDAB (R121): LDAB immediate: N=1, V cleared. -/
theorem test_ldab :
    runs [0xC6, 0x80] { start with b := 0x11, ccr := .ofByte 0b11010010 }
      (fun t => [t.b.toNat, flagsOf t]) = some [0x80, 0b011000, 0xF002, 2] := by decide

/-- STAB (R126): STAB of zero: Z=1, N cleared. -/
theorem test_stab :
    runs [0xD7, 0x80] { start with b := 0x00, ccr := .ofByte 0b11011000 }
      (fun t => [(t.mem.read 0x0080).toNat, flagsOf t]) = some [0x0, 0b010100, 0xF002, 3] := by decide

/-- TBA (R131): TBA: N from the value moved, B unchanged. -/
theorem test_tba :
    runs [0x17] { start with a := 0x01, b := 0x80 }
      (fun t => [t.a.toNat, t.b.toNat, flagsOf t]) = some [0x80, 0x80, 0b011000, 0xF001, 1] := by decide

/-- PSHB (R136): PSHB: write at SP then decrement. -/
theorem test_pshb :
    runs [0x37] { start with b := 0x99, sp := 0x00FF }
      (fun t => [t.sp.toNat, (t.mem.read 0x00FF).toNat, flagsOf t]) =
      some [0xFE, 0x99, 0b010000, 0xF001, 4] := by decide

/-- PULB (R139): PULB at the top of RAM: SP becomes $0100, read of unmapped space gives any value (shown as $FF). -/
theorem test_pulb :
    runs [0x33] { start with sp := 0x00FF }
      (fun t => [t.sp.toNat, flagsOf t]) = some [0x100, 0b010000, 0xF001, 3] := by decide

/-- CLRB (R142): CLRB. -/
theorem test_clrb :
    runs [0x5F] { start with b := 0x80, ccr := .ofByte 0b11011001 }
      (fun t => [t.b.toNat, flagsOf t]) = some [0x0, 0b010100, 0xF001, 1] := by decide

/-! ### Arithmetic, compare, test: one step each, from the tables of 95_test_vectors.md section 2 -/

/-- ADDA (R157): negative + negative = $00: V=1, C=1, Z=1. -/
theorem test_adda :
    runs [0x8B, 0x80] { start with a := 0x80 }
      (fun t => [t.a.toNat, flagsOf t]) = some [0x0, 0b010111, 0xF002, 2] := by decide

/-- ADDA (R157): carry out and zero: C=1, Z=1, H=1. -/
theorem test_adda_again :
    runs [0x8B, 0x01] { start with a := 0xFF }
      (fun t => [t.a.toNat, flagsOf t]) = some [0x0, 0b110101, 0xF002, 2] := by decide

/-- ADCA (R159): ADCA: carry in produces overflow. -/
theorem test_adca :
    runs [0x89, 0x00] { start with a := 0x7F, ccr := .ofByte 0b11010001 }
      (fun t => [t.a.toNat, flagsOf t]) = some [0x80, 0b111010, 0xF002, 2] := by decide

/-- ABA (R161): ABA. -/
theorem test_aba :
    runs [0x1B] { start with a := 0xFF, b := 0xFF }
      (fun t => [t.a.toNat, t.b.toNat, flagsOf t]) = some [0xFE, 0xFF, 0b111001, 0xF001, 1] := by decide

/-- ADDD (R162): ADDD: $7FFF + 1 overflows to $8000; H untouched. -/
theorem test_addd :
    runs [0xC3, 0x00, 0x01] { start with a := 0x7F, b := 0xFF }
      (fun t => [t.a.toNat, t.b.toNat, flagsOf t]) = some [0x80, 0x0, 0b011010, 0xF003, 3] := by decide

/-- ABX (R163): ABX: unsigned add, wraps, no flags. -/
theorem test_abx :
    runs [0x3A] { start with b := 0xFF, x := 0xFFFF }
      (fun t => [t.x.toNat, flagsOf t]) = some [0xFE, 0b010000, 0xF001, 1] := by decide

/-- SUBA (R164): signed overflow: $80 - 1 = $7F, V=1. -/
theorem test_suba :
    runs [0x80, 0x01] { start with a := 0x80 }
      (fun t => [t.a.toNat, flagsOf t]) = some [0x7F, 0b010010, 0xF002, 2] := by decide

/-- SBCA (R166): SBCA: borrow in produces overflow. -/
theorem test_sbca :
    runs [0x82, 0x00] { start with a := 0x80, ccr := .ofByte 0b11010001 }
      (fun t => [t.a.toNat, flagsOf t]) = some [0x7F, 0b010010, 0xF002, 2] := by decide

/-- SBA (R168): SBA: A - B with borrow. -/
theorem test_sba :
    runs [0x10] { start with a := 0x10, b := 0x20 }
      (fun t => [t.a.toNat, t.b.toNat, flagsOf t]) = some [0xF0, 0x20, 0b011001, 0xF001, 1] := by decide

/-- SUBD (R169): SUBD: $8000 - 1 overflows. -/
theorem test_subd :
    runs [0x83, 0x00, 0x01] { start with a := 0x80, b := 0x00 }
      (fun t => [t.a.toNat, t.b.toNat, flagsOf t]) = some [0x7F, 0xFF, 0b010010, 0xF003, 3] := by decide

/-- MUL (R170): MUL: $10 * $08 = $0080, C=1; N, Z, V untouched. -/
theorem test_mul :
    runs [0x3D] { start with a := 0x10, b := 0x08, ccr := .ofByte 0b11011110 }
      (fun t => [t.a.toNat, t.b.toNat, flagsOf t]) = some [0x0, 0x80, 0b011111, 0xF001, 7] := by decide

/-- MUL (R170): MUL by zero: D = 0, C=0, Z not set by MUL. -/
theorem test_mul_again :
    runs [0x3D] { start with a := 0x00, b := 0x55, ccr := .ofByte 0b11010001 }
      (fun t => [t.b.toNat, t.a.toNat, flagsOf t]) = some [0x0, 0x0, 0b010000, 0xF001, 7] := by decide

/-- DAA (R171): DAA: $9A -> $00 with carry. -/
theorem test_daa :
    runs [0x19] { start with a := 0x9A }
      (fun t => [t.a.toNat, flagsButV t]) = some [0x0, 0b010101, 0xF001, 2] := by decide

/-- DAA (R171): DAA: low digit > 9. -/
theorem test_daa_again :
    runs [0x19] { start with a := 0x0A }
      (fun t => [t.a.toNat, flagsButV t]) = some [0x10, 0b010000, 0xF001, 2] := by decide

/-- NEGA (R172): NEGA of $80: stays $80, V=1, C=1. -/
theorem test_nega :
    runs [0x40] { start with a := 0x80 }
      (fun t => [t.a.toNat, t.b.toNat, flagsOf t]) = some [0x80, 0x0, 0b011011, 0xF001, 1] := by decide

/-- INCA (R175): INCA $7F: V=1, C kept. -/
theorem test_inca :
    runs [0x4C] { start with a := 0x7F, ccr := .ofByte 0b11010001 }
      (fun t => [t.a.toNat, flagsOf t]) = some [0x80, 0b011011, 0xF001, 1] := by decide

/-- INCA (R175): INCA $FF: Z=1, V=0, C not set. -/
theorem test_inca_again :
    runs [0x4C] { start with a := 0xFF }
      (fun t => [t.a.toNat, flagsOf t]) = some [0x0, 0b010100, 0xF001, 1] := by decide

/-- DECA (R178): DECA $80: V=1. -/
theorem test_deca :
    runs [0x4A] { start with a := 0x80 }
      (fun t => [t.a.toNat, flagsOf t]) = some [0x7F, 0b010010, 0xF001, 1] := by decide

/-- INC (R177): INC memory wraps to $00. -/
theorem test_inc :
    runs [0x7C, 0x00, 0x80] { start with mem := [(0x0080, 0xFF)] }
      (fun t => [(t.mem.read 0x0080).toNat, flagsOf t]) = some [0x0, 0b010100, 0xF003, 6] := by decide

/-- INX (R181): INX wraps: Z=1 only, N kept. -/
theorem test_inx :
    runs [0x08] { start with x := 0xFFFF, ccr := .ofByte 0b11011000 }
      (fun t => [t.x.toNat, flagsOf t]) = some [0x0, 0b011100, 0xF001, 1] := by decide

/-- DEX (R182): DEX wraps to $FFFF: Z=0, N not set. -/
theorem test_dex :
    runs [0x09] { start with x := 0x0000 }
      (fun t => [t.x.toNat, flagsOf t]) = some [0xFFFF, 0b010000, 0xF001, 1] := by decide

/-- INS (R183): INS wraps, no flags. -/
theorem test_ins :
    runs [0x31] { start with sp := 0xFFFF }
      (fun t => [t.sp.toNat, flagsOf t]) = some [0x0, 0b010000, 0xF001, 1] := by decide

/-- DES (R184): DES wraps, no flags. -/
theorem test_des :
    runs [0x34] { start with sp := 0x0000 }
      (fun t => [t.sp.toNat, flagsOf t]) = some [0xFFFF, 0b010000, 0xF001, 1] := by decide

/-- CMPA (R185): CMPA 0 - $80: V=1, C=1, N=1, A unchanged. -/
theorem test_cmpa :
    runs [0x81, 0x80] { start with a := 0x00 }
      (fun t => [t.a.toNat, t.b.toNat, flagsOf t]) = some [0x0, 0x0, 0b011011, 0xF002, 2] := by decide

/-- CBA (R187): CBA $80 - $7F: V=1. -/
theorem test_cba :
    runs [0x11] { start with a := 0x80, b := 0x7F }
      (fun t => [t.a.toNat, t.b.toNat, flagsOf t]) = some [0x80, 0x7F, 0b010010, 0xF001, 1] := by decide

/-- CPX (R188): CPX: borrow sets C. -/
theorem test_cpx :
    runs [0x8C, 0x00, 0x01] { start with x := 0x0000 }
      (fun t => [t.a.toNat, t.b.toNat, t.x.toNat, flagsOf t]) = some [0x0, 0x0, 0x0, 0b011001, 0xF003, 3] := by decide

/-- TSTA (R189): TSTA: V and C cleared. -/
theorem test_tsta :
    runs [0x4D] { start with a := 0x80, ccr := .ofByte 0b11010011 }
      (fun t => [t.a.toNat, t.b.toNat, flagsOf t]) = some [0x80, 0x0, 0b011000, 0xF001, 1] := by decide

/-- TST (R191): TST memory zero. -/
theorem test_tst :
    runs [0x6D, 0x00] { start with x := 0x0080, ccr := .ofByte 0b11010001, mem := [] }
      (fun t => [t.a.toNat, t.b.toNat, (t.mem.read 0x80).toNat, t.x.toNat, flagsOf t]) =
      some [0x0, 0x0, 0x0, 0x80, 0b010100, 0xF002, 4] := by decide

/-- ADDB (R158): ADDB: half carry from bit 3. -/
theorem test_addb :
    runs [0xCB, 0x08] { start with b := 0x08 }
      (fun t => [t.b.toNat, flagsOf t]) = some [0x10, 0b110000, 0xF002, 2] := by decide

/-- ADCB (R160): ADCB: $80 + $7F + 1 = $00, C=1, V=0. -/
theorem test_adcb :
    runs [0xC9, 0x7F] { start with b := 0x80, ccr := .ofByte 0b11010001 }
      (fun t => [t.b.toNat, flagsOf t]) = some [0x0, 0b110101, 0xF002, 2] := by decide

/-- SUBB (R165): SUBB: $7F - $FF = $80, V=1, C=1. -/
theorem test_subb :
    runs [0xC0, 0xFF] { start with b := 0x7F }
      (fun t => [t.b.toNat, flagsOf t]) = some [0x80, 0b011011, 0xF002, 2] := by decide

/-- SBCB (R167): SBCB: 0 - $FF - 1 = $00, Z=1, C=1. -/
theorem test_sbcb :
    runs [0xC2, 0xFF] { start with b := 0x00, ccr := .ofByte 0b11010001 }
      (fun t => [t.a.toNat, t.b.toNat, flagsOf t]) = some [0x0, 0x0, 0b010101, 0xF002, 2] := by decide

/-- NEGB (R173): NEGB of $01: $FF, C=1. -/
theorem test_negb :
    runs [0x50] { start with b := 0x01 }
      (fun t => [t.b.toNat, flagsOf t]) = some [0xFF, 0b011001, 0xF001, 1] := by decide

/-- NEG (R174): NEG memory of $80: stays $80, V=1, C=1. -/
theorem test_neg :
    runs [0x70, 0x00, 0x80] { start with mem := [(0x0080, 0x80)] }
      (fun t => [(t.mem.read 0x0080).toNat, flagsOf t]) = some [0x80, 0b011011, 0xF003, 6] := by decide

/-- INCB (R176): INCB $7F: V=1. -/
theorem test_incb :
    runs [0x5C] { start with b := 0x7F }
      (fun t => [t.b.toNat, flagsOf t]) = some [0x80, 0b011010, 0xF001, 1] := by decide

/-- DECB (R179): DECB to zero: Z=1, C kept. -/
theorem test_decb :
    runs [0x5A] { start with b := 0x01, ccr := .ofByte 0b11010001 }
      (fun t => [t.b.toNat, flagsOf t]) = some [0x0, 0b010101, 0xF001, 1] := by decide

/-- DEC (R180): DEC memory wraps to $FF. -/
theorem test_dec :
    runs [0x7A, 0x00, 0x80] { start with mem := [] }
      (fun t => [(t.mem.read 0x0080).toNat, flagsOf t]) = some [0xFF, 0b011000, 0xF003, 6] := by decide

/-- CMPB (R186): CMPB $7F - $80: V=1, C=1, B unchanged. -/
theorem test_cmpb :
    runs [0xC1, 0x80] { start with b := 0x7F }
      (fun t => [t.a.toNat, t.b.toNat, flagsOf t]) = some [0x0, 0x7F, 0b011011, 0xF002, 2] := by decide

/-- TSTB (R190): TSTB of zero: Z=1, V and C cleared. -/
theorem test_tstb :
    runs [0x5D] { start with b := 0x00, ccr := .ofByte 0b11010011 }
      (fun t => [t.a.toNat, t.b.toNat, flagsOf t]) = some [0x0, 0x0, 0b010100, 0xF001, 1] := by decide

/-! ### Logic, shifts, bits: one step each, from the tables of 95_test_vectors.md section 2 -/

/-- ANDA (R202): AND to zero: Z=1, V cleared, C kept. -/
theorem test_anda :
    runs [0x84, 0x0F] { start with a := 0xF0, ccr := .ofByte 0b11010011 }
      (fun t => [t.a.toNat, flagsOf t]) = some [0x0, 0b010101, 0xF002, 2] := by decide

/-- ORAA (R204): ORAA. -/
theorem test_oraa :
    runs [0x8A, 0x01] { start with a := 0x80 }
      (fun t => [t.a.toNat, flagsOf t]) = some [0x81, 0b011000, 0xF002, 2] := by decide

/-- EORA (R206): EORA with itself value: zero. -/
theorem test_eora :
    runs [0x88, 0xFF] { start with a := 0xFF }
      (fun t => [t.a.toNat, flagsOf t]) = some [0x0, 0b010100, 0xF002, 2] := by decide

/-- BITA (R208): BITA: flags only. -/
theorem test_bita :
    runs [0x85, 0x80] { start with a := 0x80 }
      (fun t => [t.a.toNat, t.b.toNat, flagsOf t]) = some [0x80, 0x0, 0b011000, 0xF002, 2] := by decide

/-- COMA (R210): COMA of $FF: zero, C=1. -/
theorem test_coma :
    runs [0x43] { start with a := 0xFF }
      (fun t => [t.a.toNat, flagsOf t]) = some [0x0, 0b010101, 0xF001, 1] := by decide

/-- ASLA (R213): ASLA: bit 7 out to C, result 0, V = N xor C = 1. -/
theorem test_asla :
    runs [0x48] { start with a := 0x80 }
      (fun t => [t.a.toNat, flagsOf t]) = some [0x0, 0b010111, 0xF001, 1] := by decide

/-- ASRA (R216): ASRA: sign kept, bit 0 to C. -/
theorem test_asra :
    runs [0x47] { start with a := 0x81 }
      (fun t => [t.a.toNat, flagsOf t]) = some [0xC0, 0b011001, 0xF001, 1] := by decide

/-- LSRA (R219): LSRA: zero into bit 7. -/
theorem test_lsra :
    runs [0x44] { start with a := 0x80 }
      (fun t => [t.a.toNat, flagsOf t]) = some [0x40, 0b010000, 0xF001, 1] := by decide

/-- ROLA (R222): ROLA: C in to bit 0, bit 7 out. -/
theorem test_rola :
    runs [0x49] { start with a := 0x80, ccr := .ofByte 0b11010001 }
      (fun t => [t.a.toNat, flagsOf t]) = some [0x1, 0b010011, 0xF001, 1] := by decide

/-- ROLA (R222): ROLA: only carry in. -/
theorem test_rola_again :
    runs [0x49] { start with a := 0x00, ccr := .ofByte 0b11010001 }
      (fun t => [t.a.toNat, flagsOf t]) = some [0x1, 0b010000, 0xF001, 1] := by decide

/-- RORA (R225): RORA: carry into bit 7, V = N xor C = 1. -/
theorem test_rora :
    runs [0x46] { start with a := 0x00, ccr := .ofByte 0b11010001 }
      (fun t => [t.a.toNat, flagsOf t]) = some [0x80, 0b011010, 0xF001, 1] := by decide

/-- ASL (R215): ASL memory. -/
theorem test_asl :
    runs [0x78, 0x00, 0x80] { start with mem := [(0x0080, 0x55)] }
      (fun t => [(t.mem.read 0x0080).toNat, flagsOf t]) = some [0xAA, 0b011010, 0xF003, 6] := by decide

/-- LSR (R221): LSR memory indexed. -/
theorem test_lsr :
    runs [0x64, 0x05] { start with x := 0x0080, mem := [(0x0085, 0x01)] }
      (fun t => [(t.mem.read 0x0085).toNat, flagsOf t]) = some [0x0, 0b010111, 0xF002, 6] := by decide

/-- ASLD (R228): ASLD: bit 15 out. -/
theorem test_asld :
    runs [0x05] { start with a := 0x80, b := 0x00 }
      (fun t => [t.a.toNat, t.b.toNat, flagsOf t]) = some [0x0, 0x0, 0b010111, 0xF001, 1] := by decide

/-- LSRD (R229): LSRD: bit 8 moves into B bit 7. -/
theorem test_lsrd :
    runs [0x04] { start with a := 0x01, b := 0x00 }
      (fun t => [t.a.toNat, t.b.toNat, flagsOf t]) = some [0x0, 0x80, 0b010000, 0xF001, 1] := by decide

/-- AIM (R230): AIM with mask 0 clears the byte. -/
theorem test_aim :
    runs [0x71, 0x00, 0x80] { start with mem := [(0x0080, 0xFF)] }
      (fun t => [(t.mem.read 0x0080).toNat, flagsOf t]) = some [0x0, 0b010100, 0xF003, 6] := by decide

/-- OIM (R231): OIM indexed: immediate first, then offset. -/
theorem test_oim :
    runs [0x62, 0xF0, 0x02] { start with x := 0x0080, mem := [(0x0082, 0x0F)] }
      (fun t => [(t.mem.read 0x0082).toNat, flagsOf t]) = some [0xFF, 0b011000, 0xF003, 7] := by decide

/-- OIM (R231): OIM sets bit 7 (BSET 7). -/
theorem test_oim_again :
    runs [0x72, 0x80, 0x80] { start with ccr := .ofByte 0b11010001, mem := [] }
      (fun t => [(t.mem.read 0x0080).toNat, flagsOf t]) = some [0x80, 0b011001, 0xF003, 6] := by decide

/-- EIM (R232): EIM toggles all bits to zero. -/
theorem test_eim :
    runs [0x75, 0xFF, 0x80] { start with mem := [(0x0080, 0xFF)] }
      (fun t => [(t.mem.read 0x0080).toNat, flagsOf t]) = some [0x0, 0b010100, 0xF003, 6] := by decide

/-- TIM (R233): TIM: bit set, Z=0, no write. -/
theorem test_tim :
    runs [0x7B, 0x10, 0x80] { start with mem := [(0x0080, 0x10)] }
      (fun t => [t.a.toNat, t.b.toNat, (t.mem.read 0x80).toNat, flagsOf t]) =
      some [0x0, 0x0, 0x10, 0b010000, 0xF003, 4] := by decide

/-- TIM (R233): TIM: bit clear, Z=1. -/
theorem test_tim_again :
    runs [0x7B, 0x01, 0x80] { start with mem := [(0x0080, 0x10)] }
      (fun t => [t.a.toNat, t.b.toNat, (t.mem.read 0x80).toNat, flagsOf t]) =
      some [0x0, 0x0, 0x10, 0b010100, 0xF003, 4] := by decide

/-- ANDB (R203): ANDB disjoint masks: zero. -/
theorem test_andb :
    runs [0xC4, 0x55] { start with b := 0xAA }
      (fun t => [t.b.toNat, flagsOf t]) = some [0x0, 0b010100, 0xF002, 2] := by decide

/-- ORAB (R205): ORAB zero with zero: Z=1. -/
theorem test_orab :
    runs [0xCA, 0x00] { start with b := 0x00 }
      (fun t => [t.a.toNat, t.b.toNat, flagsOf t]) = some [0x0, 0x0, 0b010100, 0xF002, 2] := by decide

/-- EORB (R207): EORB: $FF, N=1. -/
theorem test_eorb :
    runs [0xC8, 0xF0] { start with b := 0x0F }
      (fun t => [t.b.toNat, flagsOf t]) = some [0xFF, 0b011000, 0xF002, 2] := by decide

/-- BITB (R209): BITB: no common bit, Z=1, B unchanged. -/
theorem test_bitb :
    runs [0xC5, 0xFE] { start with b := 0x01 }
      (fun t => [t.a.toNat, t.b.toNat, flagsOf t]) = some [0x0, 0x1, 0b010100, 0xF002, 2] := by decide

/-- COMB (R211): COMB: $AA, C=1. -/
theorem test_comb :
    runs [0x53] { start with b := 0x55 }
      (fun t => [t.b.toNat, flagsOf t]) = some [0xAA, 0b011001, 0xF001, 1] := by decide

/-- COM (R212): COM memory: $80, N=1, C=1. -/
theorem test_com :
    runs [0x73, 0x00, 0x80] { start with mem := [(0x0080, 0x7F)] }
      (fun t => [(t.mem.read 0x0080).toNat, flagsOf t]) = some [0x80, 0b011001, 0xF003, 6] := by decide

/-- ASLB (R214): ASLB: $FE, C=1, V=0. -/
theorem test_aslb :
    runs [0x58] { start with b := 0xFF }
      (fun t => [t.b.toNat, flagsOf t]) = some [0xFE, 0b011001, 0xF001, 1] := by decide

/-- ASRB (R217): ASRB: $C0, sign kept. -/
theorem test_asrb :
    runs [0x57] { start with b := 0x80 }
      (fun t => [t.b.toNat, flagsOf t]) = some [0xC0, 0b011010, 0xF001, 1] := by decide

/-- ASR (R218): ASR memory of $FF: stays $FF, C=1, V=0. -/
theorem test_asr :
    runs [0x77, 0x00, 0x80] { start with mem := [(0x0080, 0xFF)] }
      (fun t => [(t.mem.read 0x0080).toNat, flagsOf t]) = some [0xFF, 0b011001, 0xF003, 6] := by decide

/-- LSRB (R220): LSRB: $7F, C=1, V=1. -/
theorem test_lsrb :
    runs [0x54] { start with b := 0xFF }
      (fun t => [t.b.toNat, flagsOf t]) = some [0x7F, 0b010011, 0xF001, 1] := by decide

/-- ROLB (R223): ROLB: $80, C=0, V=1. -/
theorem test_rolb :
    runs [0x59] { start with b := 0x40 }
      (fun t => [t.b.toNat, flagsOf t]) = some [0x80, 0b011010, 0xF001, 1] := by decide

/-- ROL (R224): ROL memory: $FE, C=1. -/
theorem test_rol :
    runs [0x79, 0x00, 0x80] { start with mem := [(0x0080, 0xFF)] }
      (fun t => [(t.mem.read 0x0080).toNat, flagsOf t]) = some [0xFE, 0b011001, 0xF003, 6] := by decide

/-- RORB (R226): RORB: $80, C=1, V=0. -/
theorem test_rorb :
    runs [0x56] { start with b := 0x01, ccr := .ofByte 0b11010001 }
      (fun t => [t.b.toNat, flagsOf t]) = some [0x80, 0b011001, 0xF001, 1] := by decide

/-- ROR (R227): ROR memory: $01, C=0. -/
theorem test_ror :
    runs [0x76, 0x00, 0x80] { start with mem := [(0x0080, 0x02)] }
      (fun t => [(t.mem.read 0x0080).toNat, flagsOf t]) = some [0x1, 0b010000, 0xF003, 6] := by decide

/-! ### Branches, jumps, subroutines: one step each, from the tables of 95_test_vectors.md section 2 -/

/-- BRA (R242): largest backward displacement: $F002 - 128. -/
theorem test_bra :
    runs [0x20, 0x80] start
      (fun t => [t.a.toNat, t.b.toNat, flagsOf t]) = some [0x0, 0x0, 0b010000, 0xEF82, 3] := by decide

/-- BRA (R242): BRA to itself: displacement -2. -/
theorem test_bra_again :
    runs [0x20, 0xFE] start
      (fun t => [t.a.toNat, t.b.toNat, flagsOf t]) = some [0x0, 0x0, 0b010000, 0xF000, 3] := by decide

/-- BRN (R243): BRN never branches but consumes its byte and 3 cycles. -/
theorem test_brn :
    runs [0x21, 0x10] start
      (fun t => [t.a.toNat, t.b.toNat, flagsOf t]) = some [0x0, 0x0, 0b010000, 0xF002, 3] := by decide

/-- BHI (R244): BHI not taken on equal. -/
theorem test_bhi :
    runs [0x22, 0x10] { start with ccr := .ofByte 0b11010100 }
      (fun t => [t.a.toNat, t.b.toNat, flagsOf t]) = some [0x0, 0x0, 0b010100, 0xF002, 3] := by decide

/-- BLS (R245): BLS taken on borrow. -/
theorem test_bls :
    runs [0x23, 0x10] { start with ccr := .ofByte 0b11010001 }
      (fun t => [t.a.toNat, t.b.toNat, flagsOf t]) = some [0x0, 0x0, 0b010001, 0xF012, 3] := by decide

/-- BCC (R246): BCC not taken. -/
theorem test_bcc :
    runs [0x24, 0x10] { start with ccr := .ofByte 0b11010001 }
      (fun t => [t.a.toNat, t.b.toNat, flagsOf t]) = some [0x0, 0x0, 0b010001, 0xF002, 3] := by decide

/-- BCS (R247): BCS taken. -/
theorem test_bcs :
    runs [0x25, 0x10] { start with ccr := .ofByte 0b11010001 }
      (fun t => [t.a.toNat, t.b.toNat, flagsOf t]) = some [0x0, 0x0, 0b010001, 0xF012, 3] := by decide

/-- BNE (R248): BNE not taken. -/
theorem test_bne :
    runs [0x26, 0x10] { start with ccr := .ofByte 0b11010100 }
      (fun t => [t.a.toNat, t.b.toNat, flagsOf t]) = some [0x0, 0x0, 0b010100, 0xF002, 3] := by decide

/-- BEQ (R249): BEQ taken. -/
theorem test_beq :
    runs [0x27, 0x10] { start with ccr := .ofByte 0b11010100 }
      (fun t => [t.a.toNat, t.b.toNat, flagsOf t]) = some [0x0, 0x0, 0b010100, 0xF012, 3] := by decide

/-- BVC (R250): BVC not taken. -/
theorem test_bvc :
    runs [0x28, 0x10] { start with ccr := .ofByte 0b11010010 }
      (fun t => [t.a.toNat, t.b.toNat, flagsOf t]) = some [0x0, 0x0, 0b010010, 0xF002, 3] := by decide

/-- BVS (R251): BVS taken. -/
theorem test_bvs :
    runs [0x29, 0x10] { start with ccr := .ofByte 0b11010010 }
      (fun t => [t.a.toNat, t.b.toNat, flagsOf t]) = some [0x0, 0x0, 0b010010, 0xF012, 3] := by decide

/-- BPL (R252): BPL not taken. -/
theorem test_bpl :
    runs [0x2A, 0x10] { start with ccr := .ofByte 0b11011000 }
      (fun t => [t.a.toNat, t.b.toNat, flagsOf t]) = some [0x0, 0x0, 0b011000, 0xF002, 3] := by decide

/-- BMI (R253): BMI taken. -/
theorem test_bmi :
    runs [0x2B, 0x10] { start with ccr := .ofByte 0b11011000 }
      (fun t => [t.a.toNat, t.b.toNat, flagsOf t]) = some [0x0, 0x0, 0b011000, 0xF012, 3] := by decide

/-- BGE (R254): BGE taken: N xor V = 0. -/
theorem test_bge :
    runs [0x2C, 0x10] { start with ccr := .ofByte 0b11011010 }
      (fun t => [t.a.toNat, t.b.toNat, flagsOf t]) = some [0x0, 0x0, 0b011010, 0xF012, 3] := by decide

/-- BLT (R255): BLT taken: N xor V = 1. -/
theorem test_blt :
    runs [0x2D, 0x10] { start with ccr := .ofByte 0b11011000 }
      (fun t => [t.a.toNat, t.b.toNat, flagsOf t]) = some [0x0, 0x0, 0b011000, 0xF012, 3] := by decide

/-- BGT (R256): BGT taken. -/
theorem test_bgt :
    runs [0x2E, 0x10] { start with ccr := .ofByte 0b11011010 }
      (fun t => [t.a.toNat, t.b.toNat, flagsOf t]) = some [0x0, 0x0, 0b011010, 0xF012, 3] := by decide

/-- BGT (R256): BGT not taken on zero. -/
theorem test_bgt_again :
    runs [0x2E, 0x10] { start with ccr := .ofByte 0b11010100 }
      (fun t => [t.a.toNat, t.b.toNat, flagsOf t]) = some [0x0, 0x0, 0b010100, 0xF002, 3] := by decide

/-- BLE (R257): BLE taken on N xor V. -/
theorem test_ble :
    runs [0x2F, 0x10] { start with ccr := .ofByte 0b11010010 }
      (fun t => [t.a.toNat, t.b.toNat, flagsOf t]) = some [0x0, 0x0, 0b010010, 0xF012, 3] := by decide

/-- BLE (R257): BLE taken on zero. -/
theorem test_ble_again :
    runs [0x2F, 0x10] { start with ccr := .ofByte 0b11010100 }
      (fun t => [t.a.toNat, t.b.toNat, flagsOf t]) = some [0x0, 0x0, 0b010100, 0xF012, 3] := by decide

/-- BSR (R258): BSR with displacement 0: pushes $F002 and continues there. -/
theorem test_bsr :
    runs [0x8D, 0x00] start
      (fun t => [t.sp.toNat, (t.mem.read 0x00FF).toNat, (t.mem.read 0x00FE).toNat, flagsOf t]) =
      some [0xFD, 0x2, 0xF0, 0b010000, 0xF002, 5] := by decide

/-- JMP (R259): JMP indexed wraps: $FFFF + 2 = $0001. -/
theorem test_jmp :
    runs [0x6E, 0x02] { start with x := 0xFFFF }
      (fun t => [t.a.toNat, t.b.toNat, t.x.toNat, flagsOf t]) =
      some [0x0, 0x0, 0xFFFF, 0b010000, 0x0001, 3] := by decide

/-- JMP (R259): JMP into RAM is legal. -/
theorem test_jmp_again :
    runs [0x7E, 0x00, 0x80] start
      (fun t => [t.a.toNat, t.b.toNat, flagsOf t]) = some [0x0, 0x0, 0b010000, 0x0080, 3] := by decide

/-- JSR (R260): JSR indexed. -/
theorem test_jsr :
    runs [0xAD, 0x10] { start with x := 0xF100 }
      (fun t => [t.sp.toNat, (t.mem.read 0x00FF).toNat, (t.mem.read 0x00FE).toNat, flagsOf t]) =
      some [0xFD, 0x2, 0xF0, 0b010000, 0xF110, 5] := by decide

/-- JSR (R260): JSR direct: return address $F002, low byte at $00FF. -/
theorem test_jsr_again :
    runs [0x9D, 0x80] start
      (fun t => [t.sp.toNat, (t.mem.read 0x00FF).toNat, (t.mem.read 0x00FE).toNat, flagsOf t]) =
      some [0xFD, 0x2, 0xF0, 0b010000, 0x0080, 5] := by decide

/-- RTS (R261): RTS: high byte from the lower address. -/
theorem test_rts :
    runs [0x39] { start with sp := 0x00FD, mem := [(0x00FE, 0xF1), (0x00FF, 0x23)] }
      (fun t => [t.sp.toNat, flagsOf t]) = some [0xFF, 0b010000, 0xF123, 5] := by decide

/-! ### Flags, interrupts, system: one step each, from the tables of 95_test_vectors.md section 2 -/

/-- NOP (R270): NOP changes nothing. -/
theorem test_nop :
    runs [0x01] { start with ccr := .ofByte 0b11111111 }
      (fun t => [t.a.toNat, t.b.toNat, flagsOf t]) = some [0x0, 0x0, 0b111111, 0xF001, 1] := by decide

/-- TAP (R277): TAP: all six flags set, bits 7:6 dropped. -/
theorem test_tap :
    runs [0x06] { start with a := 0xFF, ccr := .ofByte 0b11000000 }
      (fun t => [t.a.toNat, t.b.toNat, flagsOf t]) = some [0xFF, 0x0, 0b111111, 0xF001, 1] := by decide

/-- TAP (R277): TAP can clear I. -/
theorem test_tap_again :
    runs [0x06] { start with a := 0x00 }
      (fun t => [t.a.toNat, t.b.toNat, flagsOf t]) = some [0x0, 0x0, 0b000000, 0xF001, 1] := by decide

/-- TPA (R278): TPA: bits 7:6 read as 1: $C0. -/
theorem test_tpa :
    runs [0x07] { start with ccr := .ofByte 0b11000000 }
      (fun t => [t.a.toNat, flagsOf t]) = some [0xC0, 0b000000, 0xF001, 1] := by decide

/-- CLI (R275): CLI. -/
theorem test_cli :
    runs [0x0E] start
      (fun t => [t.a.toNat, t.b.toNat, flagsOf t]) = some [0x0, 0x0, 0b000000, 0xF001, 1] := by decide

/-- SEI (R276): SEI. -/
theorem test_sei :
    runs [0x0F] { start with ccr := .ofByte 0b11000000 }
      (fun t => [t.a.toNat, t.b.toNat, flagsOf t]) = some [0x0, 0x0, 0b010000, 0xF001, 1] := by decide

/-- CLC (R271): CLC: only C. -/
theorem test_clc :
    runs [0x0C] { start with ccr := .ofByte 0b11010011 }
      (fun t => [t.a.toNat, t.b.toNat, flagsOf t]) = some [0x0, 0x0, 0b010010, 0xF001, 1] := by decide

/-- SEC (R272): SEC: only C. -/
theorem test_sec :
    runs [0x0D] start
      (fun t => [t.a.toNat, t.b.toNat, flagsOf t]) = some [0x0, 0x0, 0b010001, 0xF001, 1] := by decide

/-- CLV (R273): CLV: only V. -/
theorem test_clv :
    runs [0x0A] { start with ccr := .ofByte 0b11010011 }
      (fun t => [t.a.toNat, t.b.toNat, flagsOf t]) = some [0x0, 0x0, 0b010001, 0xF001, 1] := by decide

/-- SEV (R274): SEV: only V. -/
theorem test_sev :
    runs [0x0B] start
      (fun t => [t.a.toNat, t.b.toNat, flagsOf t]) = some [0x0, 0x0, 0b010010, 0xF001, 1] := by decide

/-- RTI (R280): RTI: pulls CCR ($C1: I=0, C=1), B, A, X, PC in this order. -/
theorem test_rti :
    runs [0x3B]
      { start with
        sp := 0x00F8
        mem := [(0x00F9, 0xC1), (0x00FA, 0x22), (0x00FB, 0x11), (0x00FC, 0x33),
          (0x00FD, 0x44), (0x00FE, 0xF1), (0x00FF, 0x23)] }
      (fun t => [t.a.toNat, t.b.toNat, t.x.toNat, t.sp.toNat, flagsOf t]) =
      some [0x11, 0x22, 0x3344, 0xFF, 0b000001, 0xF123, 10] := by decide

/-- SLP (R282): SLP: no frame pushed, wait state entered. -/
theorem test_slp :
    runs [0x1A] { start with ccr := .ofByte 0b11000000 }
      (fun t => [waitCode t, flagsOf t]) = some [0x2, 0b000000, 0xF001, 4] := by decide

/-- SWI (R279): SWI with the stack crossing the bottom of RAM: three bytes land in RAM, four are lost in unmapped space. -/
theorem test_swi :
    runs [0x3F] { start with sp := 0x0082, a := 0x11, b := 0x22, x := 0x3344, mem := [(0xFFFA, 0xF2)] }
      (fun t => [t.sp.toNat, (t.mem.read 0x0082).toNat, (t.mem.read 0x0081).toNat, (t.mem.read 0x0080).toNat, flagsOf t]) =
      some [0x7B, 0x1, 0xF0, 0x44, 0b010000, 0xF200, 12] := by decide

/-- WAI (R281): WAI with I=1: frame pushed with I=1; nothing can end the wait (rule R396). -/
theorem test_wai :
    runs [0x3E] start
      (fun t => [t.sp.toNat, (t.mem.read 0x00FF).toNat, (t.mem.read 0x00FE).toNat,
        (t.mem.read 0x00FD).toNat, (t.mem.read 0x00FC).toNat, (t.mem.read 0x00FB).toNat, (t.mem.read 0x00FA).toNat,
        (t.mem.read 0x00F9).toNat, waitCode t, flagsOf t]) =
      some [0xF8, 0x1, 0xF0, 0x0, 0x0, 0x0, 0x0, 0xD0, 0x1, 0b010000, 0xF001, 9] := by decide

/-- ILLEGAL (R283): illegal $87 ("store immediate"): crash, operand byte not fetched. -/
theorem test_illegal :
    runs [0x87, 0x55] start
      (fun t => [t.crashed.toNat, flagsOf t]) = some [0x1, 0b010000, 0xF000, 0] := by decide

/-- ILLEGAL (R283): illegal $00: crash, pc stays, 0 cycles. -/
theorem test_illegal_again :
    runs [0x00] start
      (fun t => [t.crashed.toNat, flagsOf t]) = some [0x1, 0b010000, 0xF000, 0] := by decide

/-! ### The opcode table's own numbering, and placing an instruction -/

/-- Operand bytes are the later, higher bits; bits that the table does not give are 0. -/
theorem test_table_words :
    decodeTableWord 8 0x86 = some (.ldaaImm 0x00) ∧ decodeTableWord 16 0x5A86 = some (.ldaaImm 0x5A) ∧
      decodeTableWord 24 0x34128E = some (.ldsImm 0x1234) ∧ decodeTableWord 24 0x800F71 = some (.aimDir 0x0F 0x80) ∧
      decodeTableWord 8 0x12 = some (.illegal 0x12) := by decide

theorem test_placed_word_runs :
    (match step (State.reset.withFetchWord 16 0x5A86) with
      | .next t => [t.a.toNat, t.pc.toNat]
      | .fault _ => []
      | .refused _ => []) = [0x5A, 0xF002] := by decide

/-! ### The flag functions: rows of the ALU flag table of 95_test_vectors.md -/

/-- A result and its flags as numbers. -/
def resultOf (r : Byte × Ccr) : Nat × Nat :=
  (r.1.toNat, flagNumber r.2)

theorem test_add8_table :
    resultOf (add8 (.ofByte 0) 0x01 0xFF false) = (0x00, 0b100101) ∧
      resultOf (add8 (.ofByte 0) 0x7F 0x7F false) = (0xFE, 0b101010) ∧
      resultOf (add8 (.ofByte 0) 0x80 0xFF false) = (0x7F, 0b000011) ∧
      resultOf (add8 (.ofByte 0) 0xFF 0xFF false) = (0xFE, 0b101001) := by decide

theorem test_sub8_table :
    resultOf (sub8 (.ofByte 0) 0x00 0x80 false) = (0x80, 0b001011) ∧
      resultOf (sub8 (.ofByte 0) 0x7F 0xFF false) = (0x80, 0b001011) ∧
      resultOf (sub8 (.ofByte 0) 0x80 0x01 false) = (0x7F, 0b000010) ∧
      resultOf (sub8 (.ofByte 0) 0xFF 0x80 false) = (0x7F, 0b000000) := by decide

/-! ### Peripherals and ports: rows of 95_test_vectors.md section 3 -/

/-- T1: a match on the third cycle sets OCF. -/
theorem test_timer_match :
    (Timer.tick 2 { coldTimer with ocr := 0x0003 }).ocf = false ∧
      (Timer.tick 3 { coldTimer with ocr := 0x0003 }).ocf = true := by decide

/-- T2: the counter wraps to $0000, which matches. -/
theorem test_timer_wrap :
    Timer.tick 2 { coldTimer with counter := 0xFFFE, ocr := 0x0000 } =
      { coldTimer with counter := 0x0000, ocr := 0x0000, ocf := true } := by decide

/-- T2: a write of TCSR stores bits 4:0 and leaves OCF; the read gives $5F. -/
theorem test_tcsr_write :
    (memRead 0x0008 (memWrite 0x0008 0xFF { start with timer := { coldTimer with ocf := true } })).1 = 0x5F := by decide

/-- T2: a read of TCSR with OCF = 1, then a write of OCR's low byte, clears OCF. -/
theorem test_ocf_clear :
    (memWrite 0x000C 0x00 (memRead 0x0008 { start with timer := { coldTimer with ocf := true } }).2).timer =
      { coldTimer with ocr := 0xFF00 } := by decide

/-- S1: an accepted byte, and the status that shows it. -/
theorem test_feed_accepted :
    (feedInbound 0x14 start).1 = .accepted ∧ (memRead 0x0011 (feedInbound 0x14 start).2).1 = 0xA0 := by decide

/-- S3: an overrun keeps the unread byte. -/
theorem test_feed_overrun :
    (memRead 0x0011 (feedInbound 0x22 (feedInbound 0x11 start).2).2).1 = 0xE0 ∧
      (memRead 0x0012 (feedInbound 0x22 (feedInbound 0x11 start).2).2).1 = 0x11 := by decide

/-- S4: with a capacity of 2, the third byte is lost and `sat` is set. -/
theorem test_queue_saturation :
    (((coldSerial.transmit (some 2) 0xA1).transmit (some 2) 0xA2).transmit (some 2) 0xA3).txq = [0xA1, 0xA2] ∧
      (((coldSerial.transmit (some 2) 0xA1).transmit (some 2) 0xA2).transmit (some 2) 0xA3).sat = true := by decide

/-- I1: the timer's request is dispatched before the serial one; the frame's CCR byte has I = 0. -/
theorem test_dispatch :
    runs [0x01]
      { start with
        a := 0x11, b := 0x22, x := 0x3344, ccr := .ofByte 0b11000000, mem := [(0xFFF0, 0xF2), (0xFFF4, 0xF1)]
        timer := { coldTimer with ocf := true, tcsrLo := 0b01000 }
        serial := { coldSerial with rdr := 0x5A, rdrf := true, trcsrLo := 0b10000 } }
      (fun t => [t.sp.toNat, (t.mem.read 0xF9).toNat, (t.mem.read 0xFA).toNat, (t.mem.read 0xFB).toNat,
        (t.mem.read 0xFC).toNat, (t.mem.read 0xFD).toNat, (t.mem.read 0xFE).toNat, (t.mem.read 0xFF).toNat, flagsOf t]) =
      some [0xF8, 0xC0, 0x22, 0x11, 0x33, 0x44, 0xF0, 0x00, 0b010000, 0xF100, 12] := by decide

/-- I2: WAI ends at a serial request: the vector is taken, nothing is pushed. -/
theorem test_wai_exit :
    runs []
      { start with
        sp := 0x00F8, pc := 0xF002, ccr := .ofByte 0b11000000, waitState := .wai, mem := [(0xFFF0, 0xF2)]
        serial := { coldSerial with rdr := 0x77, rdrf := true, trcsrLo := 0b10000 } }
      (fun t => [t.sp.toNat, waitCode t, flagsOf t]) = some [0xF8, 0, 0b010000, 0xF200, 4] := by decide

/-- I2: SLP ends although I = 1, and the next instruction executes in the same step. -/
theorem test_slp_exit_masked :
    runs [0x01]
      { start with waitState := .slp, serial := { coldSerial with rdrf := true, trcsrLo := 0b10000 } }
      (fun t => [waitCode t, t.serial.rdrf.toNat]) = some [0, 1, 0xF001, 1] := by decide

/-- H4: a budget of 1 runs one whole MUL. -/
theorem test_run_overshoots :
    (match run Params.default 1 (withCode [0x3D, 0x3D, 0x01] start) with
      | .next r => [r.1, r.2.pc.toNat, r.2.timer.counter.toNat, r.2.cyclesTotal]
      | .fault _ => []
      | .refused _ => []) = [7, 0xF001, 7, 7] := by decide

/-- H2: a warm reset ends a crash and keeps RAM, the timer and the serial peripheral. -/
theorem test_warm_reset :
    (let s : State := { start with
      mem := [(0x0090, 0x5A), (0xFFFE, 0xF0)], crashed := true
      timer := { coldTimer with counter := 0x0042, ocr := 0x1234, tcsrLo := 0b01000 } }
     ((warmReset s).crashed, (warmReset s).pc.toNat, (warmReset s).timer = s.timer, (warmReset s).mem = s.mem)) =
      (false, 0xF000, True, True) := by
  simp only [Prod.mk.injEq, eq_iff_iff, iff_true]
  decide

/-- H1: after the cold reset pc is the image's vector and RAM is clear. -/
theorem test_cold_reset :
    (coldReset { start with mem := [(0x0090, 0x5A), (0xFFFE, 0xF1), (0xFFFF, 0x23)] }).pc.toNat = 0xF123 ∧
      (coldReset { start with mem := [(0x0090, 0x5A), (0xFFFE, 0xF1), (0xFFFF, 0x23)] }).mem =
        [(0xFFFE, 0xF1), (0xFFFF, 0x23)] := by decide

/-- Costs of one cycle each, and the policy that replaces the unread byte: other values of the parameters. -/
def flatParams : Params where
  isaTable := opcodeEntry
  opcodeCycles := fun _ => 1
  dispatchCycles := 1
  waiExitCycles := 1
  idleCycles := 1
  overrunPolicy := .replace

/-- R112: a MUL under other costs computes the same and takes another time. -/
theorem test_other_costs :
    (match stepCounted flatParams (withCode [0x3D] { start with a := 0x10, b := 0x08 }) with
      | .next t => [t.1.b.toNat, t.1.timer.counter.toNat, t.2]
      | .fault _ => []
      | .refused _ => []) = [0x80, 1, 1] := by decide

/-- Another instruction table: the illegal byte $02 has the row of NOP. -/
def extraNop : Params :=
  { flatParams with isaTable := fun op => if op = 0x02 then opcodeEntry 0x01 else opcodeEntry op }

theorem extraNop_valid : extraNop.isaTable.Valid := by
  intro op
  by_cases h : op = 0x02
  · exact ⟨0x01, if_pos h⟩
  · exact ⟨op, if_neg h⟩

/-- R102: the table decides what a byte is: $02 crashes under the default one and is a NOP under the other. -/
theorem test_other_table :
    ([Params.default, extraNop].map fun p =>
      match stepCounted p (withCode [0x02] start) with
      | .next t => [t.1.pc.toNat, t.1.crashed.toNat, t.2]
      | .fault _ => []
      | .refused _ => []) = [[0xF000, 1, 0], [0xF001, 0, 1]] := by decide

/-- U1: under the policy `replace` the new byte is kept, and the overrun is reported. -/
theorem test_feed_replace :
    (match callPort flatParams (.feedInbound 0x22) (feedInbound 0x11 start).2 with
      | .next r => [(decide (r.1 = .feed .overrun)).toNat, r.2.serial.rdr.toNat, r.2.serial.orfe.toNat]
      | .fault _ => []
      | .refused _ => []) = [1, 0x22, 1] := by decide

/-- R346, U23: a byte port is refused within a run and while paused; a pause request is not. -/
theorem test_ports_admitted :
    let during : Block := { state := start, batch := some { budget := 10, consumed := 0 } }
    let between : Block := { state := start, batch := none }
    let frozen : Block := { state := { start with paused := true, pauseReq := true }, batch := none }
    PortCall.drainOutbound.admitted during = false ∧ PortCall.drainOutbound.admitted between = true ∧
      PortCall.drainOutbound.admitted frozen = false ∧ (PortCall.feedInbound 0x11).admitted frozen = false ∧
      (PortCall.reset .warm).admitted during = false ∧ PortCall.requestPause.admitted during = true ∧
      (match hostCall Params.default .drainOutbound frozen with
        | .refused r => decide (r = .portNotAdmitted)
        | _ => false) = true ∧
      (match hostCall Params.default .drainOutbound between with
        | .next r => decide (r = (.byte none, between))
        | _ => false) = true := by decide

/-- R347: a run of budget 1 is entered, takes one step, and ends. -/
theorem test_run_turns :
    (match turn Params.default { budget := 1, consumed := 0 } (withCode [0x3D] start) with
      | .next b => (decide (b.batch = some { budget := 1, consumed := 7 })).toNat
      | .fault _ => 2
      | .refused _ => 2) = 1 ∧
      (match turn Params.default { budget := 1, consumed := 7 } start with
        | .next b => [b.state.cyclesTotal, (decide (b.batch = none)).toNat]
        | .fault _ => []
        | .refused _ => []) = [7, 1] := by decide

/-- The pair of bytes of an image of one byte throughout. -/
theorem imageVector_replicate (v : Byte) (vec : Word) (h : romBase ≤ vec.toNat) (h' : vec.toNat < 65535) :
    imageVector (List.replicate romSize v) vec = v ++ v := by
  have h0 : romBase = 61440 := rfl
  have h1 : romSize = 4096 := rfl
  unfold imageVector
  rw [List.getD_replicate _ (by omega), List.getD_replicate _ (by omega)]

/-- U24: the image of $F0 bytes, whose vectors are $F0F0, is accepted whatever handlers it uses. -/
theorem validImage_f0 (uses : List HandlerVector) : validImage uses (List.replicate romSize 0xF0) = true := by
  have h : ∀ u : HandlerVector, stores (imageVector (List.replicate romSize 0xF0) u.address).toNat = true := by
    intro u
    cases u <;> rw [imageVector_replicate _ _ (by decide) (by decide)] <;> decide
  have hr : region (imageVector (List.replicate romSize 0xF0) vecRes) = .rom := by
    rw [imageVector_replicate _ _ (by decide) (by decide)]; decide
  have hu : (uses.all fun u => stores (imageVector (List.replicate romSize 0xF0) u.address).toNat) = true :=
    List.all_eq_true.2 fun u _ => h u
  rw [validImage, hu, decide_eq_true hr, List.length_replicate]
  rfl

/-- U24: the image of $01 bytes, whose reset vector $0101 is unmapped, is refused. -/
theorem test_invalid_vector (uses : List HandlerVector) : validImage uses (List.replicate romSize 0x01) = false := by
  have hr : region (imageVector (List.replicate romSize 0x01) vecRes) ≠ .rom := by
    rw [imageVector_replicate _ _ (by decide) (by decide)]; decide
  rw [validImage, decide_eq_false hr, Bool.and_false, Bool.false_and]

/-- U24: an image that is too short is refused. -/
theorem test_short_image : construct [] [0xF0, 0xF0] = none := by decide

/-- R400: waiting with the frame in RAM and I = 0 stacked is a finish; with the frame lost below RAM it is none. -/
theorem test_finished_waiting :
    let s : State := { start with
      sp := 0x00F8, waitState := .wai, ccr := { start.ccr with i := false }, mem := [(0x00F9, 0xC0)] }
    s.FinishedWaiting ∧ ¬ ({ s with sp := 0x0070 } : State).FinishedWaiting := by
  unfold State.FinishedWaiting
  decide

/-! ### Witnesses: concrete states and operands that meet the hypotheses of the statements, each clause's at its boundary -/

/-- A start state with a byte in RAM, a serial byte waiting, the timer's flag set and the clear armed. -/
def busy : State :=
  { start with
    mem := [(0x0080, 0x5A), (0xFFF0, 0xF2), (0xFFF4, 0xF1)]
    timer := { coldTimer with ocf := true, ocfArmed := true }
    serial := { coldSerial with rdr := 0x5A, rdrf := true, orfe := true } }

theorem witness_DecodeOfEncode :
    (Instr.illegal 0x87).wellFormed = true ∧ (Instr.aimIdx 0xFF 0x00).wellFormed = true := by decide

theorem witness_EncodeOfDecode : decode [0x7E, 0xF0, 0x00, 0x01] = .ok (.jmpExt 0xF000, [0x01]) := by rfl

theorem witness_IllegalOpcodesAreTwentySix : decode [0xCF, 0x12] = .ok (.illegal 0xCF, [0x12]) := by rfl

theorem witness_RamReadsBack :
    busy.mem.wf = true ∧ 0x80 ≤ (0x0080 : Word).toNat ∧ (0x00FF : Word).toNat ≤ 0xFF ∧
      region 0xF000 ≠ .reg ∧ region 0xF000 ≠ .unmapped ∧ region 0x00FF ≠ .reg ∧ region 0x00FF ≠ .unmapped := by decide

/-- The last addresses of each of the four clauses; none of them meets the hypothesis of another clause. -/
theorem witness_AddressesWithoutStorage :
    0xF000 ≤ (0xF000 : Word).toNat ∧ 0xF000 ≤ (0xFFFF : Word).toNat ∧
      (0x20 ≤ (0x0020 : Word).toNat ∧ (0x007F : Word).toNat ≤ 0x7F) ∧
      (0x100 ≤ (0x0100 : Word).toNat ∧ (0xEFFF : Word).toNat ≤ 0xEFFF) ∧
      ([0x0000, 0x0007, 0x000D, 0x0010, 0x0014, 0x001F] : List Word).all (fun w =>
        decide (w.toNat < 32) && !ownedAddresses.contains w.toNat) = true := by decide

/-- A store, a push and a modified byte whose address is in RAM, at both ends of it, and one whose address is not. -/
theorem witness_ByteStored_and_WordStored :
    busy.mem.wf = true ∧ region ((Ea.dir 0x80).addr busy) = .ram ∧ region ((Ea.ext 0x00FF).addr busy) = .ram ∧
      region ((Ea.ext 0x00FF).addr busy + 1) ≠ .ram ∧ region ((Ea.dir 0x80).addr busy + 1) = .ram := by decide

theorem witness_FrameStored :
    busy.mem.wf = true ∧ (∀ k < 7, region (busy.sp - BitVec.ofNat 16 k) = .ram) ∧
      (∀ k < 7, region (busy.sp - BitVec.ofNat 16 k) ≠ .reg) ∧ region ((0x0086 : Word) - BitVec.ofNat 16 6) = .ram := by
  decide

/-- With SP at each end of RAM that the clauses allow. -/
theorem witness_PullsUndoPushes :
    busy.mem.wf = true ∧ region busy.sp = .ram ∧ region (busy.sp - 1) = .ram ∧ region 0x0081 = .ram ∧
      region ((0x0081 : Word) - 1) = .ram ∧ region 0x0080 = .ram ∧ (∃ t, exec .psha busy = .next t) ∧
      (∃ t, exec .pshb busy = .next t) ∧
      (∃ t, exec .pshx busy = .next t) ∧ (∃ t, exec (formJsr (.dir 0x90)) busy = .next t) ∧
      ∃ t, exec (.bsr 0x80) busy = .next t :=
  ⟨by decide, by decide, by decide, by decide, by decide, by decide, ⟨_, rfl⟩, ⟨_, rfl⟩, ⟨_, rfl⟩, ⟨_, rfl⟩, ⟨_, rfl⟩⟩

/-- The largest sum, 99 + 99 + 1. -/
theorem witness_DecimalAddition :
    let s : State := { start with a := 0x99, ccr := { start.ccr with c := true } }
    s.a = BitVec.ofNat 8 (16 * (99 / 10) + 99 % 10) ∧
      (operand8 (.imm 0x99) s).1 = BitVec.ofNat 8 (16 * (99 / 10) + 99 % 10) ∧
      ∃ t u, exec (formAdca (.imm 0x99)) s = .next t ∧ exec .daa t = .next u :=
  ⟨by decide, by decide, _, _, rfl, rfl⟩

theorem witness_CompareThenBranch :
    (∃ t, exec (formCmpa (.imm 0x80)) start = .next t) ∧
      ∃ t, exec (formCmpa (.mem (.dir 0x12))) busy = .next t :=
  ⟨⟨_, rfl⟩, _, rfl⟩

/-- With SP at both ends of the range that keeps the frame in RAM. -/
theorem witness_ReturnUndoesInterrupt :
    busy.mem.wf = true ∧ FrameInRam busy.sp ∧ FrameInRam 0x0086 ∧ ∃ t, exec .swi busy = .next t :=
  ⟨by decide, by unfold FrameInRam; decide, by unfold FrameInRam; decide, _, rfl⟩

theorem witness_CrashStopsTheCore :
    let s : State := { busy with crashed := true }
    s.crashed = true ∧ (∀ k, PortCall.feedInbound 0x22 ≠ .reset k) ∧
      ∃ r t, callPort Params.default (.feedInbound 0x22) s = .next (r, t) :=
  ⟨rfl, by simp, _, _, rfl⟩

/-- An instruction of three bytes at the end of RAM that runs with a request pending and masked. -/
theorem witness_StepRunsDecodedInstruction :
    let s : State := { busy with
      pc := 0x00FD, timer := { busy.timer with tcsrLo := 0b01000 }, mem := [(0x00FD, 0xB6), (0x00FF, 0x80)] }
    s.crashed = false ∧ s.waitState = .run ∧ s.pendingVector ≠ none ∧ s.ccr.i = true ∧
      decodeWith Params.default.isaTable
          [s.mem.read s.pc.toNat, s.mem.read (s.pc + 1).toNat, s.mem.read (s.pc + 2).toNat] =
        .ok (.ldaaExt 0x0080, []) ∧
      (∀ k < (encode (.ldaaExt 0x0080)).length, region (s.pc + BitVec.ofNat 16 k) = .ram) ∧
      Params.default.isaTable.Valid :=
  ⟨rfl, rfl, by decide, rfl, rfl, by decide, fun op => ⟨op, rfl⟩⟩

/-- The default table, and one in which $02 is a NOP; a byte that one calls illegal and the other does not. -/
theorem witness_FetchReadsTheEncoding :
    IsaTable.Valid opcodeEntry ∧ extraNop.isaTable.Valid ∧ (opcodeEntry 0x02).isIllegal = true ∧
      (extraNop.isaTable 0x02).isIllegal = false :=
  ⟨fun op => ⟨op, rfl⟩, extraNop_valid, rfl, rfl⟩

theorem witness_StepConsumesItsCycles :
    busy.crashed = false ∧ busy.waitState = .run ∧ busy.pendingVector = none := by decide

theorem witness_StepLeavesHostState :
    let s : State := { busy with crashed := true, pauseReq := true }
    s.crashed = true ∧ ∃ t, step s = .next t :=
  ⟨rfl, _, rfl⟩

/-- CLI, then a pending request that is masked until it has run. -/
theorem witness_OnlyThreeInstructionsUnmask :
    (withCode [0x0E] start).ccr.i = true ∧ (fetch opcodeEntry (withCode [0x0E] start)).instr = .cli ∧
      (match step (withCode [0x0E] start) with
        | .next t => !t.ccr.i
        | .fault _ => false
        | .refused _ => false) = true := by decide

/-- A request of the timer with one of the serial peripheral; the three kinds of the latter alone; a sleeping core; none. -/
theorem witness_DispatchByPriority :
    let s : State := { busy with ccr := { busy.ccr with i := false } }
    let timerAsks (s : State) : Prop := s.timer.ocf = true ∧ s.timer.tcsrLo.toNat / 8 % 2 = 1
    let serialAsks (s : State) : Prop :=
      (s.serial.trcsrLo.toNat / 16 % 2 = 1 ∧ (s.serial.rdrf = true ∨ s.serial.orfe = true)) ∨
        (s.serial.trcsrLo.toNat / 4 % 2 = 1 ∧ s.serial.tdre = true)
    let u : State := { s with timer := { s.timer with tcsrLo := 0b01000 } }
    let v : State := { s with serial := { s.serial with trcsrLo := 0b10000 } }
    let w : State := { s with serial := { coldSerial with trcsrLo := 0b00100 }, waitState := .slp }
    (u.crashed = false ∧ u.waitState ≠ .wai ∧ u.ccr.i = false ∧ timerAsks u) ∧
      (v.crashed = false ∧ v.waitState ≠ .wai ∧ v.ccr.i = false ∧ ¬ timerAsks v ∧ serialAsks v) ∧
      (w.crashed = false ∧ w.waitState ≠ .wai ∧ w.ccr.i = false ∧ ¬ timerAsks w ∧ serialAsks w) ∧
      (s.crashed = false ∧ s.waitState ≠ .wai ∧ s.ccr.i = false ∧ ¬ timerAsks s ∧ ¬ serialAsks s) := by decide

/-- Waiting with nothing pending; with a pending source masked; with one not masked; asleep with none and with one. -/
theorem witness_WaitStates :
    let idle : State := { start with waitState := .wai, ccr := { start.ccr with i := false } }
    let ready : State := { idle with serial := { coldSerial with rdrf := true, trcsrLo := 0b10000 } }
    let masked : State := { ready with ccr := { ready.ccr with i := true } }
    let asleep : State := { start with waitState := .slp }
    let woken : State := { masked with waitState := .slp }
    (idle.crashed = false ∧ idle.waitState = .wai ∧ idle.pendingVector = none) ∧
      (masked.crashed = false ∧ masked.waitState = .wai ∧ masked.pendingVector ≠ none ∧ masked.ccr.i = true) ∧
      (ready.crashed = false ∧ ready.waitState = .wai ∧ ready.ccr.i = false ∧ ready.pendingVector = some 0xFFF0) ∧
      (asleep.crashed = false ∧ asleep.waitState = .slp ∧ asleep.pendingVector = none) ∧
      (woken.crashed = false ∧ woken.waitState = .slp ∧ woken.pendingVector ≠ none) := by decide

theorem witness_MaskedWaitIsStuck :
    let s : State := { start with waitState := .wai }
    start.crashed = false ∧ start.ccr.i = true ∧ s.Stuck ∧ (∀ k, PortCall.run 1 ≠ .reset k) ∧
      ∃ r t, callPort Params.default (.run 1) s = .next (r, t) :=
  ⟨rfl, rfl, ⟨rfl, rfl, rfl⟩, by simp, _, _, rfl⟩

/-- The least and the largest distance. -/
theorem witness_CompareAfterKCycles :
    let near : Timer := { coldTimer with counter := 0xFFFF, ocr := 0x0000 }
    let far : Timer := { coldTimer with counter := 0x1234, ocr := 0x1234 }
    (near.ocf = false ∧ near.ocr = near.counter + BitVec.ofNat 16 1) ∧
      (far.ocf = false ∧ far.ocr = far.counter + BitVec.ofNat 16 65536) := by decide

theorem witness_InboundByte : start.serial.rdrf = false ∧ busy.serial.rdrf = true := by decide

/-- Whatever `TXQ_CAP` is, it admits one byte. -/
theorem witness_OutboundOrder :
    start.serial.txq = [] ∧ ∀ k < ([0xF1] : List Byte).length, Config.txqHasRoom k = true := by
  refine ⟨rfl, fun k hk => ?_⟩
  obtain rfl : k = 0 := by simpa using hk
  unfold Config.txqHasRoom Config.txqCap
  cases Config.txqCapLessOne <;> simp [Config.hasRoom]

/-- The least valid costs; a running core, and a crashed one, with a positive budget and with none. -/
theorem witness_RunMeetsItsBudget :
    flatParams.Valid ∧ flatParams.CostsAtMost 1 ∧ start.pauseReq = false ∧ start.paused = false ∧
      start.crashed = false ∧ (0 : Int) < 1 ∧ (0 : Int) ≤ 0 ∧ ({ start with crashed := true } : State).crashed = true :=
  ⟨⟨fun op => ⟨op, rfl⟩, fun _ _ => Nat.le_refl 1, Nat.le_refl 1, Nat.le_refl 1, Nat.le_refl 1⟩,
    ⟨fun _ => Nat.le_refl 1, Nat.le_refl 1, Nat.le_refl 1, Nat.le_refl 1⟩, by decide⟩

/-- A paused state, a requested pause, a run in progress, and a call the host may make while paused. -/
theorem witness_PauseFreezesTheBlock :
    let s : State := { start with paused := true, pauseReq := true }
    s.paused = true ∧ (requestPause start).pauseReq = true ∧
      ({ state := start, batch := some { budget := 1, consumed := 0 } } : Block).batch ≠ none ∧
      ∃ b, Transition Params.default { state := s, batch := none } b :=
  ⟨rfl, rfl, by decide, _, .port .isReceiveBusy _ _ _ (by simp) rfl⟩

theorem witness_PlainPorts :
    start.serial.txq = [] ∧
      ({ start with serial := { coldSerial with txq := [0xF1] } } : State).serial.txq = 0xF1 :: [] := by
  decide

/-- An image of $F0 bytes, its constructed block, and the block after a `run` is entered and has taken a turn. -/
theorem witness_ImageIsImmutable :
    ∃ b c, Reachable Params.default (List.replicate romSize 0xF0) b ∧ Transition Params.default b c ∧
      Reachable Params.default (List.replicate romSize 0xF0) c := by
  have h : construct [] (List.replicate romSize 0xF0) =
      some (coldReset { State.reset with mem := imageCells (List.replicate romSize 0xF0) romBase }) :=
    if_pos (validImage_f0 [])
  exact ⟨_, _, .start [] _ h, .enter 1 _, .next _ _ (.start [] _ h) (.enter 1 _)⟩

/-- The busy state with a store to TDR as its next instruction. -/
def busyStore : State :=
  withCode [0x97, 0x13] { busy with portEvents := [(0x00, 0x12)] }

theorem busyStore_inv : busyStore.Inv :=
  ⟨by decide, fun _ _ => Nat.zero_le _, by decide, by decide, by decide, by decide, by decide⟩

theorem witness_InvariantKeptByStep :
    busyStore.Inv ∧ (∃ t, step busyStore = .next t) ∧ ∃ t, stepWith flatParams busyStore = .next t :=
  ⟨busyStore_inv, ⟨_, rfl⟩, _, rfl⟩

theorem witness_InvariantKeptByPorts :
    busyStore.Inv ∧ ∃ r t, callPort Params.default (.feedInbound 0x22) busyStore = .next (r, t) :=
  ⟨busyStore_inv, _, _, rfl⟩

theorem witness_InvariantAtReset : ∃ s, construct [.swi, .ocf, .sci] (List.replicate romSize 0xF0) = some s :=
  ⟨_, if_pos (validImage_f0 _)⟩


/-- The first and the last of the illegal bytes. -/
theorem witness_CycleCosts :
    (flatParams.isaTable 0x00).isIllegal = true ∧ (flatParams.isaTable 0xCF).isIllegal = true :=
  ⟨rfl, rfl⟩

end Sys2Proof.Tests
end

section
/-! PROOFS. Words and the stack (20_memory.md R69, R70, R75): O10. -/

namespace Sys2Proof.Proofs

open Sys2Proof Sys2Proof.Machine

/-! ### Words as numbers -/

/-- The next address wraps modulo 2^16 because words do (R69). -/
theorem ofNat_succ_mod_eq_add_one (addr : Word) : BitVec.ofNat 16 ((addr.toNat + 1) % 65536) = addr + 1 := by
  bv_omega

theorem lowByte_eq_ofNat (v : Word) : lowByte v = BitVec.ofNat 8 v.toNat := by
  apply BitVec.eq_of_toNat_eq
  simp [lowByte]

theorem highByte_eq_ofNat_div (v : Word) : highByte v = BitVec.ofNat 8 (v.toNat / 256) := by
  apply BitVec.eq_of_toNat_eq
  simp [highByte, Nat.shiftRight_eq_div_pow]

/-- The word of two bytes is positional: the first byte is the high one. -/
theorem toNat_append_byte (hi lo : Byte) : (hi ++ lo : Word).toNat = 256 * hi.toNat + lo.toNat := by
  rw [BitVec.toNat_append, ← Nat.shiftLeft_add_eq_or_of_lt lo.isLt, Nat.shiftLeft_eq]
  omega

/-! ### Accesses that keep the registers -/

/-- Where `t` has the registers of `s`, setting SP before or after taking the bus from `t` is the same. -/
theorem withBus_setSp (s t : State) (sp : Word) (h : t = s.withBus t) :
    { s with sp := sp }.withBus t = { t with sp := sp } := by
  rw [h]
  rfl

/-- Two writes in a row keep every register. -/
theorem memWrite_memWrite_frame (addr addr' : Word) (v v' : Byte) (s : State) :
    memWrite addr' v' (memWrite addr v s) = s.withBus (memWrite addr' v' (memWrite addr v s)) := by
  rw [memWrite_frame addr', memWrite_frame addr]
  rfl

/-! ### Word accesses (R69, R70) -/

theorem memRead16_toNat (addr : Word) (s : State) :
    (memRead16 addr s).1.toNat =
      256 * (memRead addr s).1.toNat + (memRead (addr + 1) (memRead addr s).2).1.toNat :=
  toNat_append_byte _ _

theorem memRead16_snd (addr : Word) (s : State) :
    (memRead16 addr s).2 = (memRead (addr + 1) (memRead addr s).2).2 := rfl

theorem memWrite16_eq (addr v : Word) (s : State) :
    memWrite16 addr v s = memWrite (addr + 1) (lowByte v) (memWrite addr (highByte v) s) := rfl

/-! ### The stack primitives as one access and a move of SP (R75) -/

theorem push8_eq_memWrite (v : Byte) (s : State) : push8 v s = { memWrite s.sp v s with sp := s.sp - 1 } := by
  rw [push8_eq, withBus_setSp s _ _ (memWrite_frame s.sp v s)]

theorem pull8_eq_memRead (s : State) :
    pull8 s = ((memRead (s.sp + 1) s).1, { (memRead (s.sp + 1) s).2 with sp := s.sp + 1 }) := by
  rw [pull8_eq, withBus_setSp s _ _ (memRead_frame (s.sp + 1) s)]

theorem push16_eq_memWrite (v : Word) (s : State) :
    push16 v s =
      { memWrite (s.sp - 1) (highByte v) (memWrite s.sp (lowByte v) s) with sp := s.sp - 2 } := by
  rw [push16_eq, withBus_setSp s _ _ (memWrite_memWrite_frame s.sp (s.sp - 1) (lowByte v) (highByte v) s)]

theorem pull16_eq_memRead16 (s : State) :
    pull16 s = ((memRead16 (s.sp + 1) s).1, { (memRead16 (s.sp + 1) s).2 with sp := s.sp + 2 }) := by
  rw [pull16_eq, withBus_setSp s _ _ (memRead16_frame (s.sp + 1) s)]

/-- Settles O10: each clause is the law of its operation, with the statement's arithmetic for the next address and for the
two bytes of a word brought to the model's own forms. -/
theorem wordsAndStack : Obligations.WordsAndStack := by
  intro addr v byte s nextAddr lo hi
  have hnext : nextAddr = addr + 1 := ofNat_succ_mod_eq_add_one addr
  have hlo : lo = lowByte v := (lowByte_eq_ofNat v).symm
  have hhi : hi = highByte v := (highByte_eq_ofNat_div v).symm
  rw [hnext, hlo, hhi]
  exact ⟨memRead16_toNat addr s, memRead16_snd addr s, memWrite16_eq addr v s, push8_eq_memWrite byte s,
    pull8_eq_memRead s, push16_eq_memWrite v s, pull16_eq_memRead16 s⟩

end Sys2Proof.Proofs
end

section
/-! PROOFS. The flag functions of addition and subtraction (41_arithmetic.md R150 to R155): O17. -/

namespace Sys2Proof.Proofs

open Sys2Proof Sys2Proof.Machine Sys2Proof.Claims

/-! ### N and Z from the number a result stands for (R150, R151) -/

/-- A byte's sign is its bit 7, a word's its bit 15: in general the last bit. -/
theorem getLsbD_last_eq_toInt_neg {w : Nat} (v : BitVec w) : v.getLsbD (w - 1) = decide (v.toInt < 0) := by
  rw [← BitVec.msb_eq_getLsbD_last, BitVec.msb_eq_toInt]

theorem decide_eq_zero_eq_toNat {w : Nat} (v : BitVec w) : decide (v = 0) = decide (v.toNat = 0) := by
  simp [BitVec.toNat_eq]

theorem nz8_eq (cc : Ccr) (v : Byte) :
    cc.nz8 v = { cc with n := decide (128 ≤ v.toNat), z := decide (v.toNat = 0) } := by
  have hn : v.getLsbD 7 = decide (128 ≤ v.toNat) := BitVec.getLsbD_last v
  rw [Ccr.nz8, hn, decide_eq_zero_eq_toNat]

theorem nz16_eq (cc : Ccr) (v : Word) :
    cc.nz16 v = { cc with n := decide (32768 ≤ v.toNat), z := decide (v.toNat = 0) } := by
  have hn : v.getLsbD 15 = decide (32768 ≤ v.toNat) := BitVec.getLsbD_last v
  rw [Ccr.nz16, hn, decide_eq_zero_eq_toNat]

/-! ### The result and C of a subtraction, without negative numbers (R153, R155) -/

theorem ofInt8_sub_eq_ofNat (a m : Byte) (borrow : Bool) :
    BitVec.ofInt 8 (a.toNat - m.toNat - borrow.toNat) = BitVec.ofNat 8 (a.toNat + 512 - m.toNat - borrow.toNat) := by
  have hborrow : borrow.toNat ≤ 1 := borrow.toNat_le
  apply BitVec.eq_of_toNat_eq
  rw [BitVec.toNat_ofInt, BitVec.toNat_ofNat]
  omega

theorem ofInt16_sub_eq_ofNat (a m : Word) :
    BitVec.ofInt 16 (a.toNat - m.toNat) = BitVec.ofNat 16 (a.toNat + 65536 - m.toNat) := by
  apply BitVec.eq_of_toNat_eq
  rw [BitVec.toNat_ofInt, BitVec.toNat_ofNat]
  omega

/-- The exact difference is negative when there is a borrow. -/
theorem sub_neg_iff_borrow (a m borrow : Nat) : (a : Int) - m - borrow < 0 ↔ a < m + borrow := by
  omega

/-! ### V: the sign formulas say that the signed result does not fit

Both formulas are proved once, on integers, for any width: `half` is 2^7 for bytes and 2^15 for words. -/

/-- A sum of two signed operands is off by one modulus at most. -/
theorem bmod_two_mul_cases {half : Nat} {k : Int} (hlo : -(2 * half) ≤ k) (hhi : k < 2 * half) :
    k.bmod (2 * half) = if k < -half then k + 2 * half else if k < half then k else k - 2 * half := by
  have fits (j : Int) (hj : -half ≤ j) (hj' : j < half) : j.bmod (2 * half) = j :=
    Int.bmod_eq_of_le (by omega) (by omega)
  split
  case isTrue =>
    rw [← Int.add_bmod_right]
    exact fits _ (by omega) (by omega)
  case isFalse =>
    split
    case isTrue => exact fits k (by omega) (by omega)
    case isFalse =>
      rw [← Int.sub_bmod_right]
      exact fits _ (by omega) (by omega)

/-- V of an addition, with a carry in (R152, R154). -/
theorem addOverflow_eq_not_fits {half : Nat} {a m : Int} (carry : Bool) (ha : -half ≤ a) (ha' : a < half)
    (hm : -half ≤ m) (hm' : m < half) :
    addOverflow (decide (a < 0)) (decide (m < 0)) (decide ((a + m + carry.toNat).bmod (2 * half) < 0)) =
      (decide (a + m + carry.toNat < -half) || decide (half ≤ a + m + carry.toNat)) := by
  have hc : carry.toNat ≤ 1 := carry.toNat_le
  rw [bmod_two_mul_cases (by omega) (by omega), Bool.eq_iff_iff]
  simp only [addOverflow, Bool.or_eq_true, Bool.and_eq_true, Bool.not_eq_true', decide_eq_true_eq,
    decide_eq_false_iff_not]
  split
  case isTrue => omega
  case isFalse => split <;> omega

/-- V of a subtraction, with a borrow in (R153, R155): subtracting `m` and the borrow is adding the complement `-m - 1`
and the opposite carry. -/
theorem subOverflow_eq_not_fits {half : Nat} {a m : Int} (borrow : Bool) (ha : -half ≤ a) (ha' : a < half)
    (hm : -half ≤ m) (hm' : m < half) :
    subOverflow (decide (a < 0)) (decide (m < 0)) (decide ((a - m - borrow.toNat).bmod (2 * half) < 0)) =
      (decide (a - m - borrow.toNat < -half) || decide (half ≤ a - m - borrow.toNat)) := by
  have hdiff : a - m - borrow.toNat = a + (-m - 1) + (!borrow).toNat := by
    cases borrow <;> simp <;> omega
  have hsign : decide (-m - 1 < 0) = !decide (m < 0) := by
    rw [← decide_not, decide_eq_decide]
    omega
  have hformula (p q r : Bool) : subOverflow p q r = addOverflow p (!q) r := by
    simp [subOverflow, addOverflow]
  rw [hdiff, hformula, ← hsign]
  exact addOverflow_eq_not_fits (!borrow) ha ha' (by omega) (by omega)

/-- The unsigned and the signed reading of the operands give one sum modulo 2^w. -/
theorem ofNat_add_eq_ofInt {w : Nat} (a m : BitVec w) (carry : Bool) :
    BitVec.ofNat w (a.toNat + m.toNat + carry.toNat) = BitVec.ofInt w (a.toInt + m.toInt + carry.toNat) := by
  simp [BitVec.ofInt_add, BitVec.ofNat_add]

/-- The unsigned and the signed reading of the operands give one difference modulo 2^w. -/
theorem ofInt_sub_eq_ofInt {w : Nat} (a m : BitVec w) (borrow : Bool) :
    BitVec.ofInt w (a.toNat - m.toNat - borrow.toNat) = BitVec.ofInt w (a.toInt - m.toInt - borrow.toNat) := by
  simp [BitVec.ofInt_add, BitVec.ofInt_neg, Int.sub_eq_add_neg]

/-! The bounds of a byte and of a word, in the form of the general law. -/

theorem outside8_eq (k : Int) : outside8 k = (decide (k < -128) || decide (128 ≤ k)) := rfl

theorem outside16_eq (k : Int) : outside16 k = (decide (k < -32768) || decide (32768 ≤ k)) := rfl

theorem addOverflow8_eq_outside8 (a m : Byte) (carry : Bool) :
    addOverflow (a.getLsbD 7) (m.getLsbD 7) ((BitVec.ofNat 8 (a.toNat + m.toNat + carry.toNat)).getLsbD 7) =
      outside8 (a.toInt + m.toInt + carry.toNat) := by
  simp only [getLsbD_last_eq_toInt_neg (w := 8), ofNat_add_eq_ofInt, BitVec.toInt_ofInt, outside8_eq]
  exact addOverflow_eq_not_fits (half := 128) carry a.le_toInt a.toInt_lt m.le_toInt m.toInt_lt

theorem subOverflow8_eq_outside8 (a m : Byte) (borrow : Bool) :
    subOverflow (a.getLsbD 7) (m.getLsbD 7) ((BitVec.ofNat 8 (a.toNat + 512 - m.toNat - borrow.toNat)).getLsbD 7) =
      outside8 (a.toInt - m.toInt - borrow.toNat) := by
  simp only [← ofInt8_sub_eq_ofNat, getLsbD_last_eq_toInt_neg (w := 8), ofInt_sub_eq_ofInt, BitVec.toInt_ofInt,
    outside8_eq]
  exact subOverflow_eq_not_fits (half := 128) borrow a.le_toInt a.toInt_lt m.le_toInt m.toInt_lt

theorem addOverflow16_eq_outside16 (a m : Word) :
    addOverflow (a.getLsbD 15) (m.getLsbD 15) ((BitVec.ofNat 16 (a.toNat + m.toNat)).getLsbD 15) =
      outside16 (a.toInt + m.toInt) := by
  have hres : BitVec.ofNat 16 (a.toNat + m.toNat) = BitVec.ofInt 16 (a.toInt + m.toInt) := by
    simpa using ofNat_add_eq_ofInt a m false
  simp only [getLsbD_last_eq_toInt_neg (w := 16), hres, BitVec.toInt_ofInt, outside16_eq]
  simpa using addOverflow_eq_not_fits (half := 32768) false a.le_toInt a.toInt_lt m.le_toInt m.toInt_lt

theorem subOverflow16_eq_outside16 (a m : Word) :
    subOverflow (a.getLsbD 15) (m.getLsbD 15) ((BitVec.ofNat 16 (a.toNat + 65536 - m.toNat)).getLsbD 15) =
      outside16 (a.toInt - m.toInt) := by
  have hres : BitVec.ofNat 16 (a.toNat + 65536 - m.toNat) = BitVec.ofInt 16 (a.toInt - m.toInt) := by
    simpa [← ofInt16_sub_eq_ofNat] using ofInt_sub_eq_ofInt a m false
  simp only [getLsbD_last_eq_toInt_neg (w := 16), hres, BitVec.toInt_ofInt, outside16_eq]
  simpa using subOverflow_eq_not_fits (half := 32768) false a.le_toInt a.toInt_lt m.le_toInt m.toInt_lt

/-! ### The four flag functions -/

theorem add8_eq_sum8 (cc : Ccr) (a m : Byte) (cin : Bool) : add8 cc a m cin = sum8 cc a m cin := by
  simp only [add8, sum8, flags8, nz8_eq, addOverflow8_eq_outside8, gt_iff_lt]

theorem sub8_eq_diff8 (cc : Ccr) (a m : Byte) (bin : Bool) : sub8 cc a m bin = diff8 cc a m bin := by
  simp only [sub8, diff8, flags8, nz8_eq, subOverflow8_eq_outside8, ofInt8_sub_eq_ofNat, sub_neg_iff_borrow]

theorem add16_eq_sum16 (cc : Ccr) (a m : Word) : add16 cc a m = sum16 cc a m := by
  simp only [add16, sum16, flags16, nz16_eq, addOverflow16_eq_outside16, gt_iff_lt]

theorem sub16_eq_diff16 (cc : Ccr) (a m : Word) : sub16 cc a m = diff16 cc a m := by
  simp only [sub16, diff16, flags16, nz16_eq, subOverflow16_eq_outside16, ofInt16_sub_eq_ofNat, sub_neg, Nat.cast_lt]

/-- Settles O17: one law for each of the four functions. -/
theorem arithmeticLaws : Obligations.ArithmeticLaws := by
  intro cc a m x y cin
  exact ⟨add8_eq_sum8 cc a m cin, sub8_eq_diff8 cc a m cin, add16_eq_sum16 cc x y, sub16_eq_diff16 cc x y⟩

end Sys2Proof.Proofs
end

section
/-! PROOFS. The interrupt frame (60_exceptions.md R310): O34. Its seven bytes are one descending run of writes, and what
such a run stores and leaves alone is proved for a list of any length. -/

namespace Sys2Proof.Proofs

open Sys2Proof Sys2Proof.Machine Sys2Proof.Claims

/-! ### A descending run of writes -/

/-- The bytes written one after another at `addr`, `addr - 1`, … -/
def writeDown : List Byte → Word → State → State
  | [], _, s => s
  | v :: rest, addr, s => writeDown rest (addr - 1) (memWrite addr v s)

@[simp] theorem writeDown_nil (addr : Word) (s : State) : writeDown [] addr s = s := rfl

@[simp] theorem writeDown_cons (v : Byte) (rest : List Byte) (addr : Word) (s : State) :
    writeDown (v :: rest) addr s = writeDown rest (addr - 1) (memWrite addr v s) := rfl

theorem sub_one_sub_ofNat (addr : Word) (k : Nat) : addr - 1 - BitVec.ofNat 16 k = addr - BitVec.ofNat 16 (k + 1) := by
  bv_omega

@[simp] theorem writeDown_draws (bytes : List Byte) (addr : Word) (s : State) :
    (writeDown bytes addr s).draws = s.draws := by
  induction bytes generalizing addr s with
  | nil => rfl
  | cons v rest ih => rw [writeDown_cons, ih, memWrite_draws]

theorem writeDown_read_other (bytes : List Byte) (addr : Word) (s : State) (a : Nat)
    (ha : ∀ k < bytes.length, a ≠ (addr - BitVec.ofNat 16 k).toNat) :
    (writeDown bytes addr s).mem.read a = s.mem.read a := by
  induction bytes generalizing addr s with
  | nil => rfl
  | cons v rest ih =>
    have hhead : a ≠ addr.toNat := by simpa using ha 0 (by simp)
    have hrest : ∀ k < rest.length, a ≠ (addr - 1 - BitVec.ofNat 16 k).toNat := fun k hk => by
      rw [sub_one_sub_ofNat]
      exact ha (k + 1) (by simpa using hk)
    rw [writeDown_cons, ih _ _ hrest, memWrite_read_other _ _ _ _ hhead]

/-- In RAM each byte is read back, as long as the run does not come round to its own first address. -/
theorem writeDown_read_stored (bytes : List Byte) (addr : Word) (s : State) (hlen : bytes.length ≤ 65536)
    (hwf : s.mem.wf = true) (k : Nat) (hk : k < bytes.length) (hram : region (addr - BitVec.ofNat 16 k) = .ram) :
    bytes[k]? = some ((writeDown bytes addr s).mem.read (addr - BitVec.ofNat 16 k).toNat) := by
  induction bytes generalizing addr s k with
  | nil => exact absurd hk (Nat.not_lt_zero k)
  | cons v rest ih =>
    have hlen' : rest.length + 1 ≤ 65536 := hlen
    cases k with
    | zero =>
      have hram' : region addr = .ram := by simpa using hram
      have hlater : ∀ j < rest.length, addr.toNat ≠ (addr - 1 - BitVec.ofNat 16 j).toNat := fun j hj => by
        bv_omega
      have hread : (writeDown (v :: rest) addr s).mem.read addr.toNat = v := by
        rw [writeDown_cons, writeDown_read_other _ _ _ _ hlater, memWrite_read_same _ _ _ hwf hram']
      simp only [BitVec.sub_zero, hread, List.getElem?_cons_zero]
    | succ k =>
      rw [← sub_one_sub_ofNat] at hram ⊢
      exact ih (addr - 1) (memWrite addr v s) (by omega) (memWrite_wf _ _ _ hwf) k (by simpa using hk) hram

/-- Outside the window the run leaves the peripherals and the PORT events alone. -/
theorem writeDown_off_window (bytes : List Byte) (addr : Word) (s : State)
    (hoff : ∀ k < bytes.length, region (addr - BitVec.ofNat 16 k) ≠ .reg) :
    (writeDown bytes addr s).timer = s.timer ∧ (writeDown bytes addr s).serial = s.serial ∧
      (writeDown bytes addr s).portEvents = s.portEvents := by
  induction bytes generalizing addr s with
  | nil => exact ⟨rfl, rfl, rfl⟩
  | cons v rest ih =>
    have hhead : region addr ≠ .reg := by simpa using hoff 0 (by simp)
    have hrest : ∀ k < rest.length, region (addr - 1 - BitVec.ofNat 16 k) ≠ .reg := fun k hk => by
      rw [sub_one_sub_ofNat]
      exact hoff (k + 1) (by simpa using hk)
    obtain ⟨htimer, hserial, hports⟩ := ih (addr - 1) (memWrite addr v s) hrest
    have hwrite := memWrite_off_window addr v s hhead
    rw [writeDown_cons, htimer, hserial, hports, hwrite]
    exact ⟨rfl, rfl, rfl⟩

/-! ### The frame as such a run -/

/-- R29: the CCR byte's two constant bits are worth 192, its flags 32 down to 1. -/
theorem toByte_eq_ccrByte (f : Ccr) : f.toByte = ccrByte f := by
  have key : ∀ h i n z v c : Bool,
      Ccr.toByte { h, i, n, z, v, c } = ccrByte { h, i, n, z, v, c } := by decide
  exact key f.h f.i f.n f.z f.v f.c

@[simp] theorem frameBytes_length (ret : Word) (s : State) : (frameBytes ret s).length = 7 := rfl

/-- The run of the frame's bytes, address by address. -/
theorem writeDown_frameBytes (ret : Word) (s : State) :
    writeDown (frameBytes ret s) s.sp s =
      memWrite (s.sp - 6) (ccrByte s.ccr) (memWrite (s.sp - 5) s.b (memWrite (s.sp - 4) s.a
        (memWrite (s.sp - 3) (BitVec.ofNat 8 (s.x.toNat / 256)) (memWrite (s.sp - 2) (BitVec.ofNat 8 s.x.toNat)
          (memWrite (s.sp - 1) (BitVec.ofNat 8 (ret.toNat / 256))
            (memWrite s.sp (BitVec.ofNat 8 ret.toNat) s)))))) := by
  have h2 : s.sp - 1 - 1 = s.sp - 2 := by ring
  have h3 : s.sp - 2 - 1 = s.sp - 3 := by ring
  have h4 : s.sp - 3 - 1 = s.sp - 4 := by ring
  have h5 : s.sp - 4 - 1 = s.sp - 5 := by ring
  have h6 : s.sp - 5 - 1 = s.sp - 6 := by ring
  simp only [frameBytes, writeDown_cons, writeDown_nil, h2, h3, h4, h5, h6]

theorem pushFrame_eq_writeDown (s : State) :
    pushFrame s = { s with sp := s.sp - 7 }.withBus (writeDown (frameBytes s.pc s) s.sp s) := by
  rw [pushFrame_eq, writeDown_frameBytes]
  simp only [lowByte_eq_ofNat, highByte_eq_ofNat_div, toByte_eq_ccrByte]

/-- A state after writes alone has drawn nothing, so its bus is what `writesOf` takes from it. -/
theorem withBus_eq_writesOf (c s : State) (h : s.draws = c.draws) : c.withBus s = writesOf c s := by
  rw [State.withBus, h]
  rfl

theorem frameStored_pushFrame (s : State) : FrameStored s.pc s (pushFrame s) := by
  rw [pushFrame_eq_writeDown]
  exact ⟨fun a ha => writeDown_read_other (frameBytes s.pc s) s.sp s a ha,
    fun hwf k hk hram => writeDown_read_stored (frameBytes s.pc s) s.sp s (by simp) hwf k hk hram,
    fun hoff => writeDown_off_window (frameBytes s.pc s) s.sp s hoff⟩

/-- Settles O34: the frame is the descending run of its seven bytes, which draws nothing, and a run stores its bytes and
nothing else. -/
theorem interruptFrame : Obligations.InterruptFrame := by
  intro s lowHalf highHalf t1 t2 t3
  have hrun : writeDown (frameBytes s.pc s) s.sp s = t3 := writeDown_frameBytes s.pc s
  have hdraws : t3.draws = s.draws := by rw [← hrun, writeDown_draws]
  refine ⟨?_, frameStored_pushFrame s⟩
  rw [pushFrame_eq_writeDown, hrun, withBus_eq_writesOf { s with sp := s.sp - 7 } t3 hdraws]
  rfl

end Sys2Proof.Proofs
end

section
/-! PROOFS. The serial peripheral's window addresses (60_exceptions.md R333 to R342), the request lines (R304 to R306) and
the byte ports (R331 to R349): O9, O45, O51, O55. -/

namespace Sys2Proof.Proofs

open Sys2Proof Sys2Proof.Machine Sys2Proof.Claims

/-! ### Bits and bit fields as numbers -/

/-- Concatenation is positional, at any widths. -/
theorem toNat_append_eq_add {m n : Nat} (hi : BitVec m) (lo : BitVec n) :
    (hi ++ lo).toNat = hi.toNat * 2 ^ n + lo.toNat := by
  rw [BitVec.toNat_append, ← Nat.shiftLeft_add_eq_or_of_lt lo.isLt, Nat.shiftLeft_eq]

theorem getLsbD_iff_div_mod {w : Nat} (v : BitVec w) (i : Nat) : v.getLsbD i = true ↔ v.toNat / 2 ^ i % 2 = 1 := by
  rw [BitVec.getLsbD, Nat.testBit_eq_decide_div_mod_eq, decide_eq_true_iff]

/-- R34: the three flags are worth 128, 64 and 32 in TRCSR, above its five stored bits. -/
theorem trcsr_eq_ofNat (p : Serial) :
    p.trcsr = BitVec.ofNat 8 (128 * p.rdrf.toNat + 64 * p.orfe.toNat + 32 * p.tdre.toNat + p.trcsrLo.toNat) := by
  have hvalue : p.trcsr.toNat =
      128 * p.rdrf.toNat + 64 * p.orfe.toNat + 32 * p.tdre.toNat + p.trcsrLo.toNat := by
    simp only [Serial.trcsr, toNat_append_eq_add, BitVec.toNat_ofBool]
    ring
  rw [← hvalue, BitVec.ofNat_toNat, BitVec.setWidth_eq]

theorem extractLsb'_zero_eq_ofNat {w : Nat} (v : BitVec w) (n : Nat) : v.extractLsb' 0 n = BitVec.ofNat n v.toNat := by
  apply BitVec.eq_of_toNat_eq
  simp

/-! ### The serial peripheral's addresses -/

theorem memRead_trcsr (s : State) : memRead 0x11#16 s = (s.serial.trcsr, s) :=
  memRead_reg _ _ ((region_reg_iff _).2 (by decide))

theorem memRead_rdr (s : State) : memRead 0x12#16 s = (s.serial.rdr, { s with serial := s.serial.afterRdrRead }) :=
  memRead_reg _ _ ((region_reg_iff _).2 (by decide))

theorem memWrite_trcsr (v : Byte) (s : State) :
    memWrite 0x11#16 v s = { s with serial := { s.serial with trcsrLo := v.extractLsb' 0 5 } } :=
  memWrite_reg _ _ _ ((region_reg_iff _).2 (by decide))

theorem memWrite_rdr (v : Byte) (s : State) : memWrite 0x12#16 v s = s :=
  memWrite_reg _ _ _ ((region_reg_iff _).2 (by decide))

theorem memWrite_tdr (v : Byte) (s : State) :
    memWrite 0x13#16 v s = { s with serial := s.serial.transmit Config.txqCap v } :=
  memWrite_reg _ _ _ ((region_reg_iff _).2 (by decide))

/-- R336: with room the byte is queued, without it `sat` is set; `tdr` takes the byte and TDRE is cleared either way. -/
theorem transmit_eq (cap : Option Nat) (p : Serial) (v : Byte) :
    p.transmit cap v = { p with
      tdr := v
      tdre := false
      txq := if Config.hasRoom cap p.txq.length then p.txq ++ [v] else p.txq
      sat := if Config.hasRoom cap p.txq.length then p.sat else true } := by
  by_cases hroom : Config.hasRoom cap p.txq.length = true
  · simp only [Serial.transmit, if_pos hroom]
  · simp only [Serial.transmit, if_neg hroom]

/-- R342: a queue without a capacity always has room, one with a capacity has it below that. -/
theorem hasRoom_iff (cap : Option Nat) (n : Nat) :
    Config.hasRoom cap n = true ↔ cap = none ∨ ∃ k, cap = some k ∧ n < k := by
  cases cap with
  | none => simp [Config.hasRoom]
  | some k => simp [Config.hasRoom]

/-- Settles O9: the law of each address, with the bit fields brought to numbers. -/
theorem serialWindow : Obligations.SerialWindow := by
  intro v s
  refine ⟨?_, memRead_rdr s, ?_, memWrite_rdr v s, ?_, hasRoom_iff Config.txqCap⟩
  · rw [memRead_trcsr, trcsr_eq_ofNat]
  · rw [memWrite_trcsr, extractLsb'_zero_eq_ofNat]
  · rw [memWrite_tdr, transmit_eq]
    rfl

/-! ### The request lines -/

/-- R304: EOCI is bit 3 of TCSR. -/
theorem timer_irq_iff (t : Timer) : t.irq = true ↔ t.ocf = true ∧ t.tcsrLo.toNat / 8 % 2 = 1 := by
  simp only [Timer.irq, Bool.and_eq_true, getLsbD_iff_div_mod, Nat.reducePow]

/-- R305: RIE is bit 4 of TRCSR, TIE bit 2. -/
theorem serial_irq_iff (p : Serial) :
    p.irq = true ↔ (p.trcsrLo.toNat / 16 % 2 = 1 ∧ (p.rdrf = true ∨ p.orfe = true)) ∨
      (p.trcsrLo.toNat / 4 % 2 = 1 ∧ p.tdre = true) := by
  simp only [Serial.irq, Bool.or_eq_true, Bool.and_eq_true, getLsbD_iff_div_mod, Nat.reducePow]

/-- Settles O45: the two lines bit by bit, and the vector by the model's own law. -/
theorem requestLines : Obligations.RequestLines := fun s =>
  ⟨timer_irq_iff s.timer, serial_irq_iff s.serial, s.pendingVector_eq⟩

/-! ### The ports -/

/-- R331: with no byte unread the byte is taken. -/
theorem feedInbound_of_idle (v : Byte) (s : State) (h : s.serial.rdrf = false) :
    feedInbound v s = (.accepted, { s with serial := { s.serial with rdr := v, rdrf := true } }) := by
  simp only [feedInbound, feedInboundWith, h, Bool.false_eq_true, if_false]

/-- R343, the preserve policy: the unread byte is kept and the overrun reported. -/
theorem feedInbound_of_busy (v : Byte) (s : State) (h : s.serial.rdrf = true) :
    feedInbound v s = (.overrun, { s with serial := { s.serial with orfe := true } }) := by
  simp only [feedInbound, feedInboundWith, h, if_true, Params.default_overrunPolicy]

/-- After the call a byte is unread either way, and it is the one that was unread before, if there was one. -/
theorem feedInbound_unread (v : Byte) (s : State) :
    (feedInbound v s).2.serial.rdrf = true ∧
      (feedInbound v s).2.serial.rdr = if s.serial.rdrf then s.serial.rdr else v := by
  cases h : s.serial.rdrf with
  | false =>
    rw [feedInbound_of_idle v s h]
    exact ⟨rfl, rfl⟩
  | true =>
    rw [feedInbound_of_busy v s h]
    exact ⟨h, rfl⟩

/-- Settles O51: the two cases of the call, and then the law of a read of RDR. -/
theorem inboundByte : Obligations.InboundByte := by
  intro v s
  obtain ⟨hbusy, hkept⟩ := feedInbound_unread v s
  refine ⟨feedInbound_of_idle v s, feedInbound_of_busy v s, hbusy, ?_⟩
  rw [memRead_rdr]
  exact ⟨hkept, rfl, rfl⟩

theorem drainOutbound_of_empty (s : State) (h : s.serial.txq = []) : drainOutbound s = (none, s) := by
  simp only [drainOutbound, h]

theorem drainOutbound_of_cons (s : State) (v : Byte) (rest : List Byte) (h : s.serial.txq = v :: rest) :
    drainOutbound s = (some v, { s with serial := { s.serial with txq := rest } }) := by
  simp only [drainOutbound, h]

/-- R338 at the port: what `drain_outbound` answers is the call's result. -/
theorem callPort_drainOutbound (p : Params) (s t : State) (v : Option Byte) (h : drainOutbound s = (v, t)) :
    callPort p .drainOutbound s = .next (.byte v, t) := by
  simp only [callPort, h]

/-- Settles O55: `drain_outbound` by whether the queue is empty; every other port here is one field read or written,
which the model's definition says as it stands. -/
theorem plainPorts : Obligations.PlainPorts := fun p _ s =>
  ⟨rfl, rfl, rfl, rfl, rfl, fun h => callPort_drainOutbound p s _ _ (drainOutbound_of_empty s h),
    fun v rest h => callPort_drainOutbound p s _ _ (drainOutbound_of_cons s v rest h)⟩

end Sys2Proof.Proofs
end

section
/-! PROOFS. Encoding and decoding (30_encoding.md sections 1 and 2): O1, O2, O3, O4. -/

namespace Sys2Proof.Proofs

open Sys2Proof

/-! ### The bytes an opcode's entry looks at -/

/-- An entry looks at as many operand bytes as it counts, and at no other (R91). -/
theorem entry_instr_congr (e : OpcodeEntry) (op : Byte) {b1 b2 c1 c2 : Byte}
    (h : [b1, b2].take e.operandCount = [c1, c2].take e.operandCount) : e.instr op b1 b2 = e.instr op c1 c2 := by
  cases e with
  | ill => rfl
  | inh i => rfl
  | byte mk =>
    obtain rfl : b1 = c1 := by simpa [OpcodeEntry.operandCount] using h
    rfl
  | word mk =>
    obtain ⟨rfl, rfl⟩ : b1 = c1 ∧ b2 = c2 := by simpa [OpcodeEntry.operandCount] using h
    rfl
  | bytes2 mk =>
    obtain ⟨rfl, rfl⟩ : b1 = c1 ∧ b2 = c2 := by simpa [OpcodeEntry.operandCount] using h
    rfl

/-- The two bytes the decoder looks up are the leading bytes of the list, as far as the list goes. -/
theorem take_getD_pair (l : List Byte) (n : Nat) (hn : n ≤ 2) (hl : n ≤ l.length) :
    [l.getD 0 0, l.getD 1 0].take n = l.take n := by
  match l, n with
  | _, 0 => simp
  | a :: _, 1 => simp
  | a :: b :: _, 2 => simp

/-! ### The round trip -/

open Laws.EncodeDecode in
/-- An instruction's opcode counts its operand bytes and its own bytes make it: by the law of each constructor. -/
theorem encodeDecode_statement (i : Instr) : Statement i :=
  Instr.casesOn i illegal nop lsrd asld tap tpa inx dex clv sev clc sec cli sei sba cba tab tba xgdx daa slp aba bra
    brn bhi bls bcc bcs bne beq bvc bvs bpl bmi bge blt bgt ble tsx ins pula pulb des txs psha pshb pulx rts abx rti
    pshx mul wai swi nega coma lsra rora asra asla rola deca inca tsta clra negb comb lsrb rorb asrb aslb rolb decb
    incb tstb clrb negIdx aimIdx oimIdx comIdx lsrIdx eimIdx rorIdx asrIdx aslIdx rolIdx decIdx timIdx incIdx tstIdx
    jmpIdx clrIdx negExt aimDir oimDir comExt lsrExt eimDir rorExt asrExt aslExt rolExt decExt timDir incExt tstExt
    jmpExt clrExt subaImm cmpaImm sbcaImm subdImm andaImm bitaImm ldaaImm eoraImm adcaImm oraaImm addaImm cpxImm bsr
    ldsImm subaDir cmpaDir sbcaDir subdDir andaDir bitaDir ldaaDir staaDir eoraDir adcaDir oraaDir addaDir cpxDir
    jsrDir ldsDir stsDir subaIdx cmpaIdx sbcaIdx subdIdx andaIdx bitaIdx ldaaIdx staaIdx eoraIdx adcaIdx oraaIdx
    addaIdx cpxIdx jsrIdx ldsIdx stsIdx subaExt cmpaExt sbcaExt subdExt andaExt bitaExt ldaaExt staaExt eoraExt
    adcaExt oraaExt addaExt cpxExt jsrExt ldsExt stsExt subbImm cmpbImm sbcbImm adddImm andbImm bitbImm ldabImm
    eorbImm adcbImm orabImm addbImm lddImm ldxImm subbDir cmpbDir sbcbDir adddDir andbDir bitbDir ldabDir stabDir
    eorbDir adcbDir orabDir addbDir lddDir stdDir ldxDir stxDir subbIdx cmpbIdx sbcbIdx adddIdx andbIdx bitbIdx
    ldabIdx stabIdx eorbIdx adcbIdx orabIdx addbIdx lddIdx stdIdx ldxIdx stxIdx subbExt cmpbExt sbcbExt adddExt
    andbExt bitbExt ldabExt stabExt eorbExt adcbExt orabExt addbExt lddExt stdExt ldxExt stxExt

/-- Settles O1: the decoder takes as many bytes as the instruction has operand bytes, and these make the instruction,
whatever follows them. -/
theorem decodeOfEncode : Obligations.DecodeOfEncode := by
  intro i rest hwf
  obtain ⟨hcount, hinstr⟩ := encodeDecode_statement i hwf
  have hle : i.operandBytes.length ≤ 2 := hcount ▸ Laws.operandCount_le i.opcode
  have hlong : ¬ (i.operandBytes ++ rest).length < operandCount i.opcode := by simp [hcount]
  have htake : [(i.operandBytes ++ rest).getD 0 0, (i.operandBytes ++ rest).getD 1 0].take (operandCount i.opcode) =
      [i.operandBytes.getD 0 0, i.operandBytes.getD 1 0].take (operandCount i.opcode) := by
    rw [hcount, take_getD_pair _ _ hle (by simp), take_getD_pair _ _ hle le_rfl, List.take_left', List.take_length]
    rfl
  have hbytes : instrOf i.opcode ((i.operandBytes ++ rest).getD 0 0) ((i.operandBytes ++ rest).getD 1 0) = i :=
    (entry_instr_congr _ _ htake).trans hinstr
  rw [encode, List.cons_append, Laws.decode_cons, if_neg hlong, hbytes, hcount, List.drop_left' rfl]

/-- Settles O2: what is made of an opcode byte and the bytes after it has these as its bytes. -/
theorem encodeOfDecode : Obligations.EncodeOfDecode := by
  intro bytes rest i h
  match bytes with
  | [] => cases h
  | op :: tail =>
    rw [Laws.decode_cons] at h
    split at h
    case isTrue => cases h
    case isFalse hlong =>
      cases h
      obtain ⟨hwf, hop, hoperands⟩ := Laws.instrOf_spec op (tail.getD 0 0) (tail.getD 1 0)
      rw [take_getD_pair _ _ (Laws.operandCount_le op) (Nat.le_of_not_lt hlong)] at hoperands
      refine ⟨hwf, ?_⟩
      rw [encode, hop, hoperands, List.cons_append, List.take_append_drop]

/-! ### The illegal bytes, and sample words -/

/-- The decoder takes a byte of R104 alone. -/
theorem decode_illegal (op : Byte) (rest : List Byte) (h : op ∈ illegalOpcodes) :
    decode (op :: rest) = .ok (.illegal op, rest) :=
  decodeOfEncode (.illegal op) rest (by simpa [Instr.wellFormed] using h)

/-- Settles O3: a byte of R104 is decoded alone; what decodes to an illegal opcode is well formed, so its byte is one of R104,
and is the encoding of it. -/
theorem illegalOpcodesAreTwentySix : Obligations.IllegalOpcodesAreTwentySix := by
  intro op rest
  refine ⟨⟨fun h => ?_, decode_illegal op rest⟩, fun op' rest' h => ?_⟩
  · have hwf := (encodeOfDecode _ _ _ h).1
    simpa [Instr.wellFormed, illegalOpcodes] using hwf
  · have hbytes : op' :: rest' = op :: rest := (encodeOfDecode _ _ _ h).2
    exact List.cons.inj hbytes

/-- Settles O4: each word is the encoding of its instruction. -/
theorem sampleWordsDecode : Obligations.SampleWordsDecode :=
  ⟨decodeOfEncode .aba [] rfl, decodeOfEncode (.ldaaImm 0x80) [] rfl, decodeOfEncode (.cpxImm 0x1001) [] rfl,
    decodeOfEncode (.staaDir 0x90) [] rfl, decodeOfEncode (.ldaaIdx 0x81) [] rfl, decodeOfEncode (.jsrExt 0xF100) [] rfl,
    decodeOfEncode (.bne 0xFE) [] rfl, decodeOfEncode (.aimDir 0x0F 0x90) [] rfl,
    decodeOfEncode (.timIdx 0x80 0x04) [] rfl, decodeOfEncode .swi [] rfl⟩

end Sys2Proof.Proofs
end

section
/-! PROOFS. The timer's tick (60_exceptions.md R320, R321, R328): O49, O50. -/

namespace Sys2Proof.Proofs

open Sys2Proof Sys2Proof.Machine

/-- R320: the counter goes up by the number of cycles; OCF aside, nothing else of the timer changes. -/
theorem timer_tick_eq (n : Nat) (t : Timer) :
    t.tick n = { t with counter := t.counter + BitVec.ofNat 16 n, ocf := (t.tick n).ocf } := by
  induction n generalizing t with
  | zero => simp [Timer.tick]
  | succ n ih =>
    have hcount : t.counter + 1 + BitVec.ofNat 16 n = t.counter + BitVec.ofNat 16 (n + 1) := by bv_omega
    rw [Timer.tick, ih, Timer.tickOnce_eq, hcount]

@[simp] theorem timer_tick_counter (n : Nat) (t : Timer) : (t.tick n).counter = t.counter + BitVec.ofNat 16 n := by
  rw [timer_tick_eq]

@[simp] theorem timer_tick_ocfArmed (n : Nat) (t : Timer) : (t.tick n).ocfArmed = t.ocfArmed := by
  rw [timer_tick_eq]

/-- R321: each of the `n` new counter values is compared. -/
theorem timer_tick_ocf_iff (n : Nat) (t : Timer) :
    (t.tick n).ocf = true ↔ t.ocf = true ∨ ∃ k, 1 ≤ k ∧ k ≤ n ∧ t.counter + BitVec.ofNat 16 k = t.ocr := by
  induction n generalizing t with
  | zero =>
    rw [Timer.tick]
    exact ⟨.inl, fun h => h.elim id fun ⟨k, h1, h0, _⟩ => absurd (h1.trans h0) (by decide)⟩
  | succ n ih =>
    have hcount (k : Nat) : t.counter + 1 + BitVec.ofNat 16 k = t.counter + BitVec.ofNat 16 (k + 1) := by bv_omega
    rw [Timer.tick, ih, Timer.tickOnce_eq]
    simp only [hcount, Bool.or_eq_true, beq_iff_eq]
    constructor
    · rintro ((hset | hfirst) | ⟨k, h1, hk, hmatch⟩)
      · exact .inl hset
      · exact .inr ⟨1, le_rfl, by omega, hfirst⟩
      · exact .inr ⟨k + 1, by omega, by omega, hmatch⟩
    · rintro (hset | ⟨k, h1, hk, hmatch⟩)
      · exact .inl (.inl hset)
      · obtain rfl | ⟨j, rfl, hj⟩ : k = 1 ∨ ∃ j, k = j + 1 ∧ 1 ≤ j := by
          rcases Nat.eq_or_lt_of_le h1 with h | h
          · exact .inl h.symm
          · exact .inr ⟨k - 1, by omega, by omega⟩
        · exact .inl (.inr hmatch)
        · exact .inr ⟨j, hj, by omega, hmatch⟩

/-- Settles O49: the two laws of the tick. -/
theorem tickComparesEachCycle : Obligations.TickComparesEachCycle := fun n t =>
  ⟨timer_tick_eq n t, timer_tick_ocf_iff n t⟩

/-- Settles O50: of the distances from 1 to 65536 no two are the same modulo 2^16, so the counter first meets the compare
register at the `k`-th cycle. -/
theorem compareAfterKCycles : Obligations.CompareAfterKCycles := by
  intro k n t h1 hk hclear hocr
  rw [timer_tick_ocf_iff, hocr]
  constructor
  · rintro (hset | ⟨j, hj1, hjn, hmatch⟩)
    · exact absurd hset (by simp [hclear])
    · have hmod : j % 65536 = k % 65536 := by
        simpa using congrArg BitVec.toNat (add_left_cancel hmatch)
      omega
  · exact fun hkn => .inr ⟨k, h1, hkn, rfl⟩

end Sys2Proof.Proofs
end

section
/-! PROOFS. What a step does, said once (60_exceptions.md R313), and what follows for every step: the invariant, the cycles,
the host's fields (O42, O43, O58). -/

namespace Sys2Proof.Proofs

open Sys2Proof Sys2Proof.Machine

/-! ### Properties that every access keeps -/

theorem kept_and {P Q : State → Prop} (hp : Kept P) (hq : Kept Q) : Kept fun s => P s ∧ Q s where
  regs s a b x sp pc cc h := ⟨hp.regs s a b x sp pc cc h.1, hq.regs s a b x sp pc cc h.2⟩
  read addr s h := ⟨hp.read addr s h.1, hq.read addr s h.2⟩
  write addr v s h := ⟨hp.write addr v s h.1, hq.write addr v s h.2⟩
  drawn s n h := ⟨hp.drawn s n h.1, hq.drawn s n h.2⟩

/-- What speaks of neither the registers nor the bus is kept: an access changes the bus alone. -/
theorem kept_of_withBus {P : State → Prop}
    (hregs : ∀ (s : State) (a b : Byte) (x sp pc : Word) (cc : Ccr), P s →
      P { s with a := a, b := b, x := x, sp := sp, pc := pc, ccr := cc })
    (hbus : ∀ c s : State, P c → P (c.withBus s)) : Kept P where
  regs := hregs
  read addr s h := by rw [memRead_frame]; exact hbus _ _ h
  write addr v s h := by rw [memWrite_frame]; exact hbus _ _ h
  drawn s n h := hbus s { s with draws := n } h

theorem kept_crashed (b : Bool) : Kept fun s => s.crashed = b :=
  kept_of_withBus (fun _ _ _ _ _ _ _ h => h) fun _ _ h => h

/-- No access counts: only the tick does (R320, R322). -/
theorem kept_counter (w : Word) : Kept fun s => s.timer.counter = w where
  regs _ _ _ _ _ _ _ h := h
  read addr s h := by rw [memRead_counter, h]
  write addr v s h := by rw [memWrite_counter, h]
  drawn _ _ h := h

theorem kept_inv : Kept State.Inv where
  regs _ _ _ _ _ _ _ h := h.ofRegs rfl rfl rfl rfl rfl rfl rfl rfl
  read := inv_memRead
  write := inv_memWrite
  drawn _ _ h := h.ofRegs rfl rfl rfl rfl rfl rfl rfl rfl

/-! ### One instruction -/

/-- Nothing stops an instruction (R76, R302). -/
theorem exec_total (i : Instr) (s : State) : ∃ t, exec i s = .next t := by
  have ktrue : Kept fun _ : State => True :=
    { regs := fun _ _ _ _ _ _ _ h => h, read := fun _ _ h => h, write := fun _ _ _ h => h, drawn := fun _ _ h => h }
  obtain ⟨t, h, -⟩ := exec_kept ktrue i s trivial (fun _ _ h => h) fun _ _ => trivial
  exact ⟨t, h⟩

/-- A defined instruction keeps what accesses and entering a wait state keep. -/
theorem exec_keeps {P : State → Prop} (k : Kept P) (hwait : ∀ (w : WaitState) (u : State), P u → P { u with waitState := w })
    {i : Instr} (hi : ∀ op, i ≠ .illegal op) {s t : State} (h : exec i s = .next t) (hs : P s) : P t := by
  obtain ⟨t', h', ht⟩ := exec_kept k i s hs hwait fun op hop => absurd hop (hi op)
  cases h.symm.trans h'
  exact ht

/-- R283, R301: the crashed flag is set and nothing else changes. -/
theorem exec_illegal (op : Byte) (s : State) : exec (.illegal op) s = .next { s with crashed := true } := rfl

/-- Of the instructions the illegal ones crash the core, and no other. -/
theorem exec_crashed_iff {i : Instr} {s t : State} (h : exec i s = .next t) (hc : s.crashed = false) :
    t.crashed = true ↔ ∃ op, i = .illegal op := by
  by_cases hi : ∃ op, i = .illegal op
  · obtain ⟨op, rfl⟩ := hi
    cases h
    exact ⟨fun _ => ⟨op, rfl⟩, fun _ => rfl⟩
  · have ht : t.crashed = false :=
      exec_keeps (kept_crashed false) (fun _ _ hu => hu) (fun op hop => hi ⟨op, hop⟩) h hc
    simp [ht, hi]

/-- An instruction changes the counter only through the tick that follows it. -/
theorem exec_counter {i : Instr} {s t : State} (h : exec i s = .next t) : t.timer.counter = s.timer.counter := by
  obtain ⟨t', h', ht⟩ := exec_kept (kept_counter s.timer.counter) i s rfl (fun _ _ hu => hu) fun _ _ => rfl
  cases h.symm.trans h'
  exact ht

/-- An instruction of a running core keeps the invariant: it may enter a wait state, or crash, but not both. -/
theorem exec_inv {i : Instr} {s t : State} (h : exec i s = .next t) (hs : s.Inv) (hc : s.crashed = false)
    (hw : s.waitState = .run) : t.Inv := by
  by_cases hi : ∃ op, i = .illegal op
  · obtain ⟨op, rfl⟩ := hi
    cases h
    exact { hs with crashedRuns := fun _ => hw }
  · have hwait (w : WaitState) (u : State) (hu : u.Inv ∧ u.crashed = false) :
        ({ u with waitState := w } : State).Inv ∧ u.crashed = false :=
      ⟨{ hu.1 with crashedRuns := fun hcr => absurd hcr (by simp [hu.2]) }, hu.2⟩
    exact (exec_keeps (kept_and kept_inv (kept_crashed false)) hwait (fun op hop => hi ⟨op, hop⟩) h ⟨hs, hc⟩).1

/-! ### The fetch -/

/-- A fetch looks at pc and the bus alone. -/
theorem fetch_withBus (t : IsaTable) (c s : State) (hpc : c.pc = s.pc) :
    fetch t (c.withBus s) = { fetch t s with after := c.withBus (fetch t s).after } := by
  unfold fetch
  simp only [State.withBus_pc, hpc, memRead_withBus]
  split <;> split <;> simp only [memRead_withBus]

/-- R102: what the table calls illegal is fetched as an illegal instruction, and nothing else is. -/
theorem fetch_illegal_iff {t : IsaTable} (ht : t.Valid) (s : State) :
    (∃ op, (fetch t s).instr = .illegal op) ↔ (t (fetch t s).op).isIllegal = true := by
  obtain ⟨b1, b2, hinstr⟩ : ∃ b1 b2, (fetch t s).instr = (t (fetch t s).op).instr (fetch t s).op b1 b2 := ⟨_, _, rfl⟩
  obtain ⟨-, hill, hlegal⟩ := Laws.instr_spec_of_valid ht (fetch t s).op b1 b2
  rw [hinstr]
  cases hi : (t (fetch t s).op).isIllegal with
  | true => exact ⟨fun _ => rfl, fun _ => ⟨_, hill hi⟩⟩
  | false => exact ⟨fun ⟨op, hop⟩ => absurd hop (hlegal hi op), fun h => absurd h (by decide)⟩

/-! ### The cases of a step -/

/-- All that a step can do, with the cycles it consumes (R313): nothing in a crashed core; an idle cycle of a waiting core; the
end of WAI; a dispatch; or the next instruction. A core that sleeps is awake before the last two. -/
inductive StepCase (p : Params) (s : State) : State → Nat → Prop where
  /-- The core has crashed. -/
  | crashed (hc : s.crashed = true) : StepCase p s s 0
  /-- The core waits on: nothing is pending, or WAI is masked. -/
  | idle (hc : s.crashed = false) (hw : s.waitState ≠ .run)
      (hq : s.pendingVector = none ∨ s.waitState = .wai ∧ s.ccr.i = true) :
      StepCase p s (s.tick p.idleCycles) p.idleCycles
  /-- WAI ends by way of the vector (R317). -/
  | leaveWai (v : Word) (hc : s.crashed = false) (hw : s.waitState = .wai) (hv : s.pendingVector = some v)
      (hi : s.ccr.i = false) :
      StepCase p s ((enterHandler v { s with waitState := .run }).tick p.waiExitCycles) p.waiExitCycles
  /-- A pending source is dispatched (R311). -/
  | dispatch (v : Word) (hc : s.crashed = false) (hw : s.waitState ≠ .wai) (hv : s.pendingVector = some v)
      (hi : s.ccr.i = false) :
      StepCase p s ((takeInterrupt v { s with waitState := .run }).tick p.dispatchCycles) p.dispatchCycles
  /-- The next instruction is executed: nothing is to be dispatched, and a core that slept has been woken. -/
  | execute (t : State) (hc : s.crashed = false) (hw : s.waitState ≠ .wai)
      (hawake : s.pendingVector = none → s.waitState = .run) (hq : s.pendingVector = none ∨ s.ccr.i = true)
      (he : exec (fetch p.isaTable s).instr ({ s with waitState := .run }.withBus (fetch p.isaTable s).after) = .next t) :
      StepCase p s (t.tick (p.cost (fetch p.isaTable s).op)) (p.cost (fetch p.isaTable s).op)

/-- A boundary in the RUN state, of a core that ran or that a pending source has woken from its sleep. -/
theorem boundary_cases (p : Params) (s : State) (hc : s.crashed = false) (hw : s.waitState ≠ .wai)
    (hawake : s.pendingVector = none → s.waitState = .run) :
    ∃ t n, boundary p s.pendingVector { s with waitState := .run } = .next (t, n) ∧ StepCase p s t n := by
  have execute (hq : s.pendingVector = none ∨ s.ccr.i = true) :
      ∃ t n, executeNext p { s with waitState := .run } = .next (t, n) ∧ StepCase p s t n := by
    have hfetch := fetch_withBus p.isaTable { s with waitState := .run } s rfl
    obtain ⟨t, he⟩ := exec_total (fetch p.isaTable s).instr ({ s with waitState := .run }.withBus (fetch p.isaTable s).after)
    refine ⟨_, _, ?_, .execute t hc hw hawake hq he⟩
    change executeNext p ({ s with waitState := .run }.withBus s) = _
    simp only [executeNext, hfetch, he]
    rfl
  cases hv : s.pendingVector with
  | none =>
    rw [boundary_execute _ _ _ (.inl rfl)]
    exact execute (.inl hv)
  | some v =>
    cases hi : s.ccr.i with
    | true =>
      rw [boundary_execute p (some v) { s with waitState := .run } (.inr hi)]
      exact execute (.inr hi)
    | false => exact ⟨_, _, boundary_dispatch p v _ hi, .dispatch v hc hw hv hi⟩

/-- Every step answers a next state, by one of the cases. -/
theorem stepCounted_cases (p : Params) (s : State) : ∃ t n, stepCounted p s = .next (t, n) ∧ StepCase p s t n := by
  cases hc : s.crashed with
  | true => exact ⟨_, _, stepCounted_crashed p s hc, .crashed hc⟩
  | false =>
    cases hw : s.waitState with
    | run =>
      have hs : ({ s with waitState := .run } : State) = s := by rw [← hw]
      have hb := boundary_cases p s hc (by simp [hw]) fun _ => hw
      rw [hs] at hb
      rwa [stepCounted_run p s hc hw]
    | wai =>
      have idle := StepCase.idle (p := p) hc (by simp [hw])
      rw [stepCounted_wai p s hc hw]
      cases hv : s.pendingVector with
      | none => exact ⟨_, _, rfl, idle (.inl hv)⟩
      | some v =>
        cases hi : s.ccr.i with
        | true => exact ⟨_, _, rfl, idle (.inr ⟨hw, hi⟩)⟩
        | false => exact ⟨_, _, rfl, .leaveWai v hc hw hv hi⟩
    | slp =>
      rw [stepCounted_slp p s hc hw]
      cases hv : s.pendingVector with
      | none => exact ⟨_, _, rfl, .idle hc (by simp [hw]) (.inl hv)⟩
      | some v =>
        have hb := boundary_cases p s hc (by simp [hw]) fun hq => absurd hq (by simp [hv])
        rwa [hv] at hb

/-- The inversion of a counted step. -/
theorem stepCounted_inv {p : Params} {s t : State} {n : Nat} (h : stepCounted p s = .next (t, n)) : StepCase p s t n := by
  obtain ⟨t', n', h', hcase⟩ := stepCounted_cases p s
  cases h.symm.trans h'
  exact hcase

/-- The inversion of a step: the counted step, the count forgotten. -/
theorem stepWith_inv {p : Params} {s t : State} (h : stepWith p s = .next t) : ∃ n, stepCounted p s = .next (t, n) := by
  obtain ⟨t', n, h', -⟩ := stepCounted_cases p s
  cases h.symm.trans (stepWith_of_counted p s t' n h')
  exact ⟨n, h'⟩

/-! ### The invariant -/

/-- The tick never clears OCF, and arms nothing. -/
theorem inv_tick (n : Nat) (s : State) (h : s.Inv) : (s.tick n).Inv := by
  refine { h with armedWithFlag := fun ha => ?_ }
  rw [State.tick_timer, timer_tick_ocfArmed] at ha
  rw [State.tick_timer, timer_tick_ocf_iff]
  exact .inl (h.armedWithFlag ha)

/-- A core that has not crashed may be in any wait state. -/
theorem inv_setWaitState {s : State} (h : s.Inv) (hc : s.crashed = false) (w : WaitState) :
    ({ s with waitState := w } : State).Inv :=
  { h with crashedRuns := fun hcr => absurd hcr (by simp [hc]) }

theorem stepCase_keeps_inv {p : Params} {s t : State} {n : Nat} (h : StepCase p s t n) (hs : s.Inv) : t.Inv := by
  cases h with
  | crashed hc => exact hs
  | idle hc hw hq => exact inv_tick _ _ hs
  | leaveWai v hc hw hv hi => exact inv_tick _ _ (kept_inv.enterHandler v (inv_setWaitState hs hc .run))
  | dispatch v hc hw hv hi => exact inv_tick _ _ (kept_inv.takeInterrupt v (inv_setWaitState hs hc .run))
  | execute t hc hw hawake hq he =>
    have hfetched : (fetch p.isaTable s).after.Inv := fetch_kept kept_inv p.isaTable s hs
    exact inv_tick _ _ (exec_inv he ((inv_setWaitState hs hc .run).withBus hfetched) hc rfl)

/-- Settles O58: each case of a step keeps the invariant. -/
theorem invariantKeptByStep : Obligations.InvariantKeptByStep := by
  have hkeep (p : Params) (s t : State) (hs : s.Inv) (h : stepWith p s = .next t) : t.Inv := by
    obtain ⟨n, hcounted⟩ := stepWith_inv h
    exact stepCase_keeps_inv (stepCounted_inv hcounted) hs
  exact fun s t hs => ⟨hkeep Params.default s t hs, fun p => hkeep p s t hs⟩

/-! ### Cycles -/

/-- A step moves the counter by the cycles it consumes, since no access does. -/
theorem stepCase_counter {p : Params} {s t : State} {n : Nat} (h : StepCase p s t n) :
    t.timer.counter = s.timer.counter + BitVec.ofNat 16 n := by
  have k := kept_counter s.timer.counter
  cases h with
  | crashed hc => simp
  | idle hc hw hq => simp
  | leaveWai v hc hw hv hi =>
    have hu : (enterHandler v { s with waitState := .run }).timer.counter = s.timer.counter := k.enterHandler v rfl
    simp [hu]
  | dispatch v hc hw hv hi =>
    have hu : (takeInterrupt v { s with waitState := .run }).timer.counter = s.timer.counter := k.takeInterrupt v rfl
    simp [hu]
  | execute t hc hw hawake hq he =>
    have hf : (fetch p.isaTable s).after.timer.counter = s.timer.counter := fetch_kept k p.isaTable s rfl
    have hu : t.timer.counter = s.timer.counter := (exec_counter he).trans hf
    simp [hu]

/-- No opcode costs more than the dearest. -/
theorem cost_le {p : Params} {m : Nat} (h : p.CostsAtMost m) (op : Byte) : p.cost op ≤ m := by
  unfold Params.cost
  split
  · exact Nat.zero_le m
  · exact h.opcode op

theorem stepCase_cycles_le {p : Params} {m : Nat} (hm : p.CostsAtMost m) {s t : State} {n : Nat}
    (h : StepCase p s t n) : n ≤ m := by
  cases h with
  | crashed hc => exact Nat.zero_le m
  | idle hc hw hq => exact hm.idle
  | leaveWai v hc hw hv hi => exact hm.waiExit
  | dispatch v hc hw hv hi => exact hm.dispatch
  | execute t hc hw hawake hq he => exact cost_le hm _

/-- Under valid costs an opcode costs nothing exactly if it is illegal. -/
theorem cost_eq_zero_iff {p : Params} (hp : p.Valid) (op : Byte) : p.cost op = 0 ↔ (p.isaTable op).isIllegal = true := by
  cases hi : (p.isaTable op).isIllegal with
  | true => simp [p.cost_illegal op hi]
  | false =>
    have hcost := hp.opcode op hi
    rw [p.cost_legal op hi]
    simp
    omega

/-- Under valid costs a step consumes nothing exactly if the core is crashed after it (R302, R313). -/
theorem stepCase_cycles_zero_iff {p : Params} (hp : p.Valid) {s t : State} {n : Nat} (h : StepCase p s t n) :
    n = 0 ↔ t.crashed = true := by
  have running {n : Nat} {u : State} (hn : 1 ≤ n) (hu : u.crashed = false) : n = 0 ↔ (u.tick n).crashed = true := by
    simp [hu]
    omega
  have k := kept_crashed false
  cases h with
  | crashed hc => simp [hc]
  | idle hc hw hq => exact running hp.idle hc
  | leaveWai v hc hw hv hi => exact running hp.waiExit (k.enterHandler v hc)
  | dispatch v hc hw hv hi => exact running hp.dispatch (k.takeInterrupt v hc)
  | execute t hc hw hawake hq he =>
    rw [cost_eq_zero_iff hp, ← fetch_illegal_iff hp.table s, State.tick_crashed, exec_crashed_iff he hc]

/-- Settles O42: a case by case reading of the step. -/
theorem stepConsumesItsCycles : Obligations.StepConsumesItsCycles := by
  intro p s
  obtain ⟨t, n, h, hcase⟩ := stepCounted_cases p s
  refine ⟨t, n, h, stepWith_of_counted p s t n h, fun m hm => stepCase_cycles_le hm hcase,
    fun hp => stepCase_cycles_zero_iff hp hcase, stepCase_counter hcase, fun hc hw hq => ?_⟩
  cases hcase with
  | crashed hc' => exact absurd hc' (by simp [hc])
  | idle hc' hw' hq' => exact absurd hw hw'
  | leaveWai v hc' hw' hv hi => exact absurd hw (by simp [hw'])
  | dispatch v hc' hw' hv hi => simp [hv, hi] at hq
  | execute t hc' hw' hawake hq' he => rfl

/-! ### The host's fields -/

/-- The fields that only the host's ports and `run` write are as in `s`, and the core is crashed if it was there. -/
def HostFieldsOf (s u : State) : Prop :=
  u.phase = s.phase ∧ u.pauseReq = s.pauseReq ∧ u.paused = s.paused ∧ u.cyclesTotal = s.cyclesTotal ∧
    (s.crashed = true → u.crashed = true)

theorem kept_hostFieldsOf (s : State) : Kept (HostFieldsOf s) :=
  kept_of_withBus (fun _ _ _ _ _ _ _ h => h) fun _ _ h => h

theorem stepCounted_hostFields {p : Params} {s t : State} {n : Nat} (h : stepCounted p s = .next (t, n)) :
    HostFieldsOf s t := by
  have hcrash (u : State) (hu : HostFieldsOf s u) : HostFieldsOf s { u with crashed := true } := by
    obtain ⟨hphase, hreq, hpaused, htotal, -⟩ := hu
    exact ⟨hphase, hreq, hpaused, htotal, fun _ => rfl⟩
  obtain ⟨t', n', h', ht⟩ := stepCounted_kept (kept_hostFieldsOf s) p s ⟨rfl, rfl, rfl, rfl, id⟩ (fun _ _ hu => hu) hcrash
    fun _ _ hu => hu
  cases h.symm.trans h'
  exact ht

/-- Settles O43: no access, no tick, no wait state and no crash writes a field of the host. -/
theorem stepLeavesHostState : Obligations.StepLeavesHostState := by
  intro p s t h
  obtain ⟨n, hcounted⟩ := stepWith_inv h
  exact stepCounted_hostFields hcounted

end Sys2Proof.Proofs
end

section
/-! PROOFS. The ports (60_exceptions.md section 6), the resets (70_reset_and_hazards.md section 1), and what holds of a block over
any calls of its host: O38, O48, O53, O54, O56, O57, O59, O60. -/

namespace Sys2Proof.Proofs

open Sys2Proof Sys2Proof.Machine

/-! ### What the ports keep -/

/-- What steps keep, the loop of `run` keeps. -/
theorem runLoop_keeps {P : State → Prop} {p : Params}
    (hstep : ∀ s t n, P s → stepCounted p s = .next (t, n) → P t) (fuel : Nat) (budget : Int) (consumed r : Nat)
    (s t : State) (h : runLoop p fuel budget consumed s = .next (r, t)) (hs : P s) : P t := by
  induction fuel generalizing consumed s with
  | zero =>
    cases h
    exact hs
  | succ fuel ih =>
    obtain ⟨u, n, hu, -⟩ := stepCounted_cases p s
    rw [runLoop, hu] at h
    split at h
    case isTrue => exact ih _ _ h (hstep s u n hs hu)
    case isFalse =>
      cases h
      exact hs

/-- What steps, the latching of a pause and the counting keep, `run` keeps. -/
theorem run_keeps {P : State → Prop} {p : Params} (hstep : ∀ s t n, P s → stepCounted p s = .next (t, n) → P t)
    (hlatch : ∀ s, P s → P (latchPause s)) (hcount : ∀ n s, P s → P (addCycles n s)) {budget : Int} {r : Nat}
    {s t : State} (h : run p budget s = .next (r, t)) (hs : P s) : P t := by
  rw [run] at h
  split at h
  case isTrue =>
    cases h
    exact hlatch s hs
  case isFalse =>
    split at h
    case h_1 u hu =>
      cases h
      exact hcount _ _ (runLoop_keeps hstep _ _ _ _ _ _ hu (hlatch s hs))
    case h_2 => cases h
    case h_3 => cases h

/-- `callPort` answers `run` with the cycles and the state of `run`. -/
theorem callPort_run {p : Params} {budget : Int} {s t : State} {r : PortResult}
    (h : callPort p (.run budget) s = .next (r, t)) : ∃ n, run p budget s = .next (n, t) := by
  rw [callPort] at h
  split at h
  case h_1 u hu =>
    cases h
    exact ⟨_, hu⟩
  case h_2 => cases h
  case h_3 => cases h

/-- All that `feed_inbound` changes is the serial peripheral. -/
theorem feedInboundWith_touches (policy : Config.OverrunPolicy) (v : Byte) (s : State) :
    ∃ serial, (feedInboundWith policy v s).2 = { s with serial := serial } := by
  unfold feedInboundWith
  split
  · cases policy <;> exact ⟨_, rfl⟩
  · exact ⟨_, rfl⟩

/-- All that `drain_outbound` changes is the serial peripheral. -/
theorem drainOutbound_touches (s : State) : ∃ serial, (drainOutbound s).2 = { s with serial := serial } := by
  unfold drainOutbound
  split <;> exact ⟨_, rfl⟩

/-- What steps keep and what does not speak of the serial peripheral, the pause bits and the cumulative count, every port but
`reset` keeps. -/
theorem callPort_keeps {P : State → Prop} {p : Params} (hstep : ∀ s t n, P s → stepCounted p s = .next (t, n) → P t)
    (hhost : ∀ (s : State) serial req paused total, P s →
      P { s with serial := serial, pauseReq := req, paused := paused, cyclesTotal := total })
    {call : PortCall} {s t : State} {r : PortResult} (hr : ∀ kind, call ≠ .reset kind)
    (h : callPort p call s = .next (r, t)) (hs : P s) : P t := by
  cases call with
  | reset kind => exact absurd rfl (hr kind)
  | run budget =>
    obtain ⟨n, hrun⟩ := callPort_run h
    exact run_keeps hstep (fun u hu => hhost u _ _ _ _ hu) (fun n u hu => hhost u _ _ _ _ hu) hrun hs
  | feedInbound v =>
    cases h
    obtain ⟨serial, e⟩ := feedInboundWith_touches p.overrunPolicy v s
    rw [e]
    exact hhost s _ _ _ _ hs
  | drainOutbound =>
    cases h
    obtain ⟨serial, e⟩ := drainOutbound_touches s
    rw [e]
    exact hhost s _ _ _ _ hs
  | reportTransmitCapacity space => cases h; exact hhost s _ _ _ _ hs
  | requestPause => cases h; exact hhost s _ _ _ _ hs
  | requestResume => cases h; exact hhost s _ _ _ _ hs
  | isReceiveBusy => cases h; exact hs
  | isPaused => cases h; exact hs
  | isCrashed => cases h; exact hs

/-! ### A crashed core and a masked wait -/

/-- Settles O38: a step of a crashed core is none, so the flag is kept by steps, and no port but `reset` writes it. -/
theorem crashStopsTheCore : Obligations.CrashStopsTheCore := by
  have hstep (p : Params) (s t : State) (n : Nat) (hs : s.crashed = true) (h : stepCounted p s = .next (t, n)) :
      t.crashed = true := by
    cases (stepCounted_crashed p s hs).symm.trans h
    exact hs
  refine ⟨exec_illegal, fun p s hs => stepWith_of_counted p s s 0 (stepCounted_crashed p s hs), ?_⟩
  intro p call s t r hs hr h
  exact callPort_keeps (P := fun u => u.crashed = true) (hstep p) (fun _ _ _ _ _ hu => hu) hr h hs

/-- R317: WAI with I = 1 idles, whatever is pending. -/
theorem stepCounted_stuck (p : Params) (s : State) (h : s.Stuck) :
    stepCounted p s = .next (s.tick p.idleCycles, p.idleCycles) := by
  obtain ⟨hc, hw, hi⟩ := h
  rw [stepCounted_wai p s hc hw]
  cases s.pendingVector with
  | none => rfl
  | some v => simp only [hi]; rfl

/-- Settles O48: a stuck core idles, and neither an idle cycle nor a port speaks of the fields that make it stuck. -/
theorem maskedWaitIsStuck : Obligations.MaskedWaitIsStuck := by
  have hstep (p : Params) (s t : State) (n : Nat) (hs : s.Stuck) (h : stepCounted p s = .next (t, n)) : t.Stuck := by
    cases (stepCounted_stuck p s hs).symm.trans h
    exact hs
  refine ⟨fun s hc hi => ⟨_, rfl, ?_⟩, fun p s hs => ⟨⟨?_, hs⟩, fun call t r hr h => ?_⟩⟩
  · rw [pushFrame_frame]
    exact ⟨hc, rfl, hi⟩
  · exact stepWith_of_counted p s _ _ (stepCounted_stuck p s hs)
  · exact callPort_keeps (hstep p) (fun _ _ _ _ _ hu => hu) hr h hs

/-! ### The invariant under the ports -/

theorem cpuReset_inv {s : State} (h : s.Inv) : (cpuReset s).Inv := by
  rw [cpuReset_eq]
  exact { h with crashedRuns := fun _ => rfl }

/-- The cold reset needs only the fields that it leaves. -/
theorem coldReset_inv {s : State} (hmem : s.mem.wf = true) (hpause : s.paused = true → s.pauseReq = true)
    (hevents : ∀ e ∈ s.portEvents, e.1 < 32 ∧ e.1 ∉ ownedAddresses) : (coldReset s).Inv := by
  rw [coldReset_eq, cpuReset_eq]
  exact
    { memWf := Memory.wf_clearRam _ hmem
      queueBounded := fun cap _ => Nat.zero_le cap
      armedWithFlag := id
      overrunWithByte := id
      crashedRuns := fun _ => rfl
      pausedOnRequest := hpause
      eventsUnowned := hevents }

theorem resetPort_inv (kind : ResetKind) {s : State} (h : s.Inv) : (resetPort kind s).Inv := by
  cases kind with
  | cold => exact coldReset_inv h.memWf h.pausedOnRequest h.eventsUnowned
  | warm => exact cpuReset_inv h

theorem latchPause_inv {s : State} (h : s.Inv) : (latchPause s).Inv := by
  refine { h with pausedOnRequest := fun hp => ?_ }
  rcases Bool.or_eq_true_iff.1 hp with hpaused | hreq
  · exact h.pausedOnRequest hpaused
  · exact hreq

/-- Either policy sets ORFE only where RDRF is 1 (R331, R343). -/
theorem feedInboundWith_inv (policy : Config.OverrunPolicy) (v : Byte) {s : State} (h : s.Inv) :
    (feedInboundWith policy v s).2.Inv := by
  unfold feedInboundWith
  split
  case isTrue hbusy => cases policy <;> exact { h with overrunWithByte := fun _ => hbusy }
  case isFalse => exact { h with overrunWithByte := fun _ => rfl }

/-- A shorter queue is within the bound. -/
theorem drainOutbound_inv {s : State} (h : s.Inv) : (drainOutbound s).2.Inv := by
  cases hq : s.serial.txq with
  | nil =>
    rw [drainOutbound_of_empty s hq]
    exact h
  | cons v rest =>
    rw [drainOutbound_of_cons s v rest hq]
    refine { h with queueBounded := fun cap hcap => ?_ }
    have hbound := h.queueBounded cap hcap
    rw [hq] at hbound
    exact Nat.le_of_succ_le hbound

/-- Settles O59: port by port. -/
theorem invariantKeptByPorts : Obligations.InvariantKeptByPorts := by
  intro p call s t r hs h
  cases call with
  | reset kind => cases h; exact resetPort_inv kind hs
  | run budget =>
    obtain ⟨n, hrun⟩ := callPort_run h
    exact run_keeps (fun u v n hu hv => stepCase_keeps_inv (stepCounted_inv hv) hu) (fun u => latchPause_inv)
      (fun n u hu => { hu with }) hrun hs
  | feedInbound v => cases h; exact feedInboundWith_inv p.overrunPolicy v hs
  | drainOutbound => cases h; exact drainOutbound_inv hs
  | reportTransmitCapacity space => cases h; exact { hs with }
  | requestPause => cases h; exact { hs with pausedOnRequest := fun _ => rfl }
  | requestResume => cases h; exact { hs with pausedOnRequest := fun hp => absurd hp (by simp [requestResume]) }
  | isReceiveBusy => cases h; exact hs
  | isPaused => cases h; exact hs
  | isCrashed => cases h; exact hs

/-- A block is constructed of an image of the image's size, and starts with the cold reset. -/
theorem construct_eq_some {uses : List HandlerVector} {image : List Byte} {s : State}
    (h : construct uses image = some s) :
    image.length = romSize ∧ s = coldReset { State.reset with mem := imageCells image romBase } := by
  unfold construct at h
  split at h
  case isTrue hvalid =>
    simp only [validImage, Bool.and_eq_true, decide_eq_true_eq] at hvalid
    obtain ⟨⟨hlength, -⟩, -⟩ := hvalid
    exact ⟨hlength, (Option.some.inj h).symm⟩
  case isFalse => cases h

/-- Settles O60: no field of the reset state violates the invariant, and the cells of an image are canonical. -/
theorem invariantAtReset : Obligations.InvariantAtReset := by
  refine ⟨?_, fun uses image s h => ?_⟩
  · exact
      { memWf := reset_mem_wf
        queueBounded := fun cap _ => Nat.zero_le cap
        armedWithFlag := id
        overrunWithByte := id
        crashedRuns := fun _ => rfl
        pausedOnRequest := id
        eventsUnowned := fun e he => absurd he List.not_mem_nil }
  · obtain ⟨hlength, rfl⟩ := construct_eq_some h
    have hstores (k : Nat) (hk : k < image.length) : stores (romBase + k) = true := by
      rw [hlength] at hk
      rw [stores_iff]
      simp only [romBase, romSize] at hk ⊢
      omega
    exact coldReset_inv (imageCells_wf image romBase hstores) id fun e he => absurd he List.not_mem_nil

/-! ### The two resets -/

/-- Clearing RAM leaves what is above it. -/
theorem clearRam_read_image (m : Memory) (a : Nat) (h : 0xF000 ≤ a) : m.clearRam.read a = m.read a := by
  rw [Memory.read_clearRam, if_neg]
  rw [inRange_iff]
  simp only [ramBase, ramSize]
  omega

/-- Settles O56: both resets are `cpuReset`, the cold one over clear RAM and peripherals at their defaults; the vector lies in
the image, which clearing RAM leaves. -/
theorem resets : Obligations.Resets := by
  intro s common cold warm
  have hwarm := cpuReset_eq s
  have hcold := (coldReset_eq s).trans (cpuReset_eq _)
  have hhi : s.mem.clearRam.read 0xFFFE = s.mem.read 0xFFFE := clearRam_read_image _ _ (by decide)
  have hlo : s.mem.clearRam.read 0xFFFF = s.mem.read 0xFFFF := clearRam_read_image _ _ (by decide)
  have hcommonCold : common cold (s.draws + 1) := by
    change common (coldReset s) _
    rw [hcold]
    refine ⟨rfl, rfl, rfl, ?_, rfl, rfl, rfl, rfl, rfl, rfl, rfl, rfl, rfl, rfl, rfl, rfl, rfl⟩
    exact (toNat_append_byte _ _).trans (by rw [hhi, hlo])
  have hcommonWarm : common warm s.draws := by
    change common (cpuReset s) _
    rw [hwarm]
    exact ⟨rfl, rfl, rfl, toNat_append_byte _ _, rfl, rfl, rfl, rfl, rfl, rfl, rfl, rfl, rfl, rfl, rfl, rfl, rfl⟩
  have hmem : cold.mem = s.mem.clearRam := congrArg State.mem hcold
  refine ⟨hcommonCold, hcommonWarm, congrArg State.phase hcold, fun a h1 h2 => ?_, fun a h1 h2 => ?_,
    congrArg State.timer hcold, congrArg State.serial hcold, (congrArg State.mem hwarm).trans rfl,
    (congrArg State.timer hwarm).trans rfl, (congrArg State.serial hwarm).trans rfl, (congrArg State.phase hwarm).trans rfl⟩
  · rw [hmem, Memory.read_clearRam, if_pos ((inRange_iff _ _ _).2 ?_)]
    · rfl
    · simp only [ramBase, ramSize]
      omega
  · rw [hmem, clearRam_read_image _ _ h1]

/-! ### The image -/

/-- The image holds these bytes. -/
def HoldsImage (image : List Byte) (s : State) : Prop :=
  ∀ k < 4096, s.mem.read (0xF000 + k) = image.getD k 0

/-- No write reaches the image (R65). -/
theorem kept_holdsImage (image : List Byte) : Kept (HoldsImage image) where
  regs _ _ _ _ _ _ _ h := h
  read addr s h := by rwa [HoldsImage, memRead_mem]
  write addr v s h := fun k hk => by
    rw [memWrite_mem, ← h k hk]
    split
    case isTrue hram =>
      have hlt := ((region_ram_iff addr).1 hram).2
      exact Memory.read_write_other _ _ _ _ (by omega)
    case isFalse => rfl
  drawn _ _ h := h

theorem stepCounted_holdsImage {image : List Byte} {p : Params} (s t : State) (n : Nat) (hs : HoldsImage image s)
    (h : stepCounted p s = .next (t, n)) : HoldsImage image t := by
  obtain ⟨t', n', h', ht⟩ :=
    stepCounted_kept (kept_holdsImage image) p s hs (fun _ _ hu => hu) (fun _ hu => hu) fun _ _ hu => hu
  cases h.symm.trans h'
  exact ht

theorem coldReset_holdsImage {image : List Byte} {s : State} (h : HoldsImage image s) : HoldsImage image (coldReset s) := by
  intro k hk
  rw [coldReset_eq, cpuReset_eq]
  exact (clearRam_read_image s.mem _ (by omega)).trans (h k hk)

theorem callPort_holdsImage {image : List Byte} {p : Params} {call : PortCall} {s t : State} {r : PortResult}
    (h : callPort p call s = .next (r, t)) (hs : HoldsImage image s) : HoldsImage image t := by
  by_cases hr : ∃ kind, call = .reset kind
  · obtain ⟨kind, rfl⟩ := hr
    cases h
    cases kind with
    | cold => exact coldReset_holdsImage hs
    | warm =>
      change HoldsImage image (cpuReset s)
      rw [cpuReset_eq]
      exact hs
  · exact callPort_keeps stepCounted_holdsImage (fun _ _ _ _ _ hu => hu) (fun kind hk => hr ⟨kind, hk⟩) h hs

/-- A turn of a run is a step, or the counting at its end. -/
theorem turn_cases {p : Params} {b : Batch} {s : State} {t : Block} (h : turn p b s = .next t) :
    (∃ n, stepCounted p s = .next (t.state, n)) ∨ t.state = addCycles b.consumed s := by
  rw [turn] at h
  split at h
  case isTrue =>
    obtain ⟨u, n, hu, -⟩ := stepCounted_cases p s
    rw [hu] at h
    cases h
    exact .inl ⟨n, hu⟩
  case isFalse =>
    cases h
    exact .inr rfl

theorem transition_holdsImage {image : List Byte} {p : Params} {b c : Block} (h : Transition p b c)
    (hb : HoldsImage image b.state) : HoldsImage image c.state := by
  cases h with
  | enter budget s => exact hb
  | turn batch s t h =>
    rcases turn_cases h with ⟨n, hstep⟩ | hend
    · exact stepCounted_holdsImage _ _ n hb hstep
    · rw [hend]
      exact hb
  | port call b c r hr h =>
    obtain ⟨-, hcall, -⟩ := hostCall_next h
    exact callPort_holdsImage hcall hb

/-- Settles O57: the constructed memory reads as the image, and no transition changes that. -/
theorem imageIsImmutable : Obligations.ImageIsImmutable := by
  intro p image b hb
  change HoldsImage image b.state
  induction hb with
  | start uses s h =>
    obtain ⟨-, rfl⟩ := construct_eq_some h
    exact coldReset_holdsImage fun k _ => read_imageCells image romBase k
  | next b c _ h ih => exact transition_holdsImage h ih

/-! ### Pausing -/

/-- The byte ports are closed within a run and while paused (R346, U23). -/
theorem bytePort_refused (p : Params) (b : Block) (v : Byte) (space : Bool) (h : b.batch ≠ none ∨ b.state.paused = true)
    (call : PortCall) (hcall : call ∈ [PortCall.feedInbound v, .drainOutbound, .reportTransmitCapacity space]) :
    hostCall p call b = .refused .portNotAdmitted := by
  have hclosed : (b.batch.isNone && !b.state.paused) = false := by
    rcases h with h | h
    · rw [Option.isNone_eq_false_iff.2 (Option.isSome_iff_ne_none.2 h), Bool.false_and]
    · simp [h]
  simp only [List.mem_cons, List.not_mem_nil, or_false] at hcall
  rcases hcall with rfl | rfl | rfl <;> exact hostCall_refused hclosed

/-- Settles O54: `run` by its law, the byte ports by the rule that closes them, and the remaining ports one by one. -/
theorem pauseFreezesTheBlock : Obligations.PauseFreezesTheBlock := by
  refine ⟨fun p budget s => ⟨run_paused p budget s, run_paused p budget (requestPause s) (.inr rfl), rfl, rfl⟩,
    bytePort_refused, ?_⟩
  intro p s b hpaused h
  obtain ⟨state, batch⟩ := b
  cases h with
  | enter budget =>
    have hlatch : latchPause s = s := by
      rw [latchPause, hpaused, Bool.true_or, ← hpaused]
    simp only [hlatch, hpaused, if_true]
    exact ⟨trivial, .inr (.inr (.inl trivial))⟩
  | port call b' c r hr h =>
    obtain ⟨hadmitted, hcall, hbatch⟩ := hostCall_next h
    refine ⟨hbatch, ?_⟩
    change callPort p call s = .next (r, state) at hcall
    cases call with
    | reset kind => cases hcall; exact .inl ⟨kind, rfl⟩
    | run budget => exact absurd rfl (hr budget)
    | feedInbound v => simp [PortCall.admitted, hpaused] at hadmitted
    | drainOutbound => simp [PortCall.admitted, hpaused] at hadmitted
    | reportTransmitCapacity space => simp [PortCall.admitted, hpaused] at hadmitted
    | requestPause => cases hcall; exact .inr (.inr (.inr rfl))
    | requestResume => cases hcall; exact .inr (.inl rfl)
    | isReceiveBusy => cases hcall; exact .inr (.inr (.inl rfl))
    | isPaused => cases hcall; exact .inr (.inr (.inl rfl))
    | isCrashed => cases hcall; exact .inr (.inr (.inl rfl))

/-! ### The budget of a run -/

/-- What a run that has consumed `consumed` cycles in state `s` comes to: `d` more cycles and the state `t` (R347). -/
structure RunOutcome (m : Nat) (budget : Int) (consumed : Nat) (s : State) (d : Nat) (t : State) : Prop where
  /-- The cumulative count is left to the end of the run. -/
  total : t.cyclesTotal = s.cyclesTotal
  /-- The budget is met, unless the core crashes. -/
  met : t.crashed = false → budget ≤ consumed + d
  /-- It is exceeded by less than one more step costs. -/
  excess : (consumed : Int) < budget → (consumed + d : Int) < budget + m
  /-- The counter counts the cycles. -/
  counter : t.timer.counter = s.timer.counter + BitVec.ofNat 16 d
  /-- A run that need not or cannot go on does nothing. -/
  ended : budget ≤ consumed ∨ s.crashed = true → d = 0 ∧ t = s

/-- A run that stops where it is, having met its budget or crashed. -/
theorem runOutcome_stop {m : Nat} {budget : Int} {consumed : Nat} {s : State}
    (h : budget ≤ consumed ∨ s.crashed = true) : RunOutcome m budget consumed s 0 s where
  total := rfl
  met hc := by
    rcases h with h | h
    · omega
    · exact absurd h (by simp [hc])
  excess h := by omega
  counter := by simp
  ended _ := ⟨rfl, rfl⟩

/-- A step of a run that goes on, and then the rest of it. -/
theorem runOutcome_step {p : Params} {m : Nat} (hm : p.CostsAtMost m) {budget : Int} {consumed n d : Nat} {s u t : State}
    (hlt : (consumed : Int) < budget) (hc : s.crashed = false) (hstep : stepCounted p s = .next (u, n))
    (h : RunOutcome m budget (consumed + n) u d t) : RunOutcome m budget consumed s (n + d) t := by
  have hn : n ≤ m := stepCase_cycles_le hm (stepCounted_inv hstep)
  obtain ⟨-, -, -, htotal, -⟩ := stepCounted_hostFields hstep
  constructor
  case total => exact h.total.trans htotal
  case met =>
    intro ht
    have hmet := h.met ht
    omega
  case excess =>
    intro _
    by_cases hlt' : ((consumed + n : Nat) : Int) < budget
    · have hexcess := h.excess hlt'
      omega
    · obtain ⟨rfl, -⟩ := h.ended (.inl (by omega))
      omega
  case counter =>
    have hadd : BitVec.ofNat 16 n + BitVec.ofNat 16 d = BitVec.ofNat 16 (n + d) := by bv_omega
    rw [h.counter, stepCase_counter (stepCounted_inv hstep), BitVec.add_assoc, hadd]
  case ended =>
    rintro (hend | hend)
    · omega
    · exact absurd hend (by simp [hc])

/-- Under valid costs the fuel is enough if it makes up for the cycles that the budget lacks, for each step that does not crash
the core consumes one at least. -/
theorem runLoop_outcome {p : Params} {m : Nat} (hp : p.Valid) (hm : p.CostsAtMost m) (budget : Int) (fuel consumed : Nat)
    (s : State) (hfuel : s.crashed = false → budget ≤ consumed + fuel) :
    ∃ d t, runLoop p fuel budget consumed s = .next (consumed + d, t) ∧ RunOutcome m budget consumed s d t := by
  induction fuel generalizing consumed s with
  | zero =>
    refine ⟨0, s, rfl, runOutcome_stop ?_⟩
    cases hc : s.crashed with
    | true => exact .inr rfl
    | false => exact .inl (by simpa using hfuel hc)
  | succ fuel ih =>
    rw [runLoop]
    split
    case isTrue hgo =>
      obtain ⟨hlt, hc⟩ : (consumed : Int) < budget ∧ s.crashed = false := by simpa using hgo
      obtain ⟨u, n, hstep, hcase⟩ := stepCounted_cases p s
      have hzero := stepCase_cycles_zero_iff hp hcase
      have hfuel' : u.crashed = false → budget ≤ (consumed + n : Nat) + fuel := fun hu => by
        have hn : n ≠ 0 := fun h0 => absurd (hzero.1 h0) (by simp [hu])
        have hbound := hfuel hc
        omega
      obtain ⟨d, t, hloop, hout⟩ := ih (consumed + n) u hfuel'
      refine ⟨n + d, t, ?_, runOutcome_step hm hlt hc hstep hout⟩
      rw [hstep, ← Nat.add_assoc]
      exact hloop
    case isFalse hstop =>
      refine ⟨0, s, rfl, runOutcome_stop ?_⟩
      by_cases hlt : (consumed : Int) < budget
      · exact .inr (by simpa [hlt] using hstop)
      · exact .inl (by omega)

/-- Settles O53: the loop with the budget as its fuel. -/
theorem runMeetsItsBudget : Obligations.RunMeetsItsBudget := by
  intro p m budget s hp hm hreq hpaused
  obtain ⟨d, t, hloop, hout⟩ := runLoop_outcome hp hm budget budget.toNat 0 s fun _ => by omega
  rw [Nat.zero_add] at hloop
  refine ⟨d, addCycles d t, ?_, congrArg (· + d) hout.total, fun hc => ?_, fun hpos => ?_, fun hend => ?_, hout.counter⟩
  · rw [run_eq p budget s hreq hpaused, hloop]
  · simpa using hout.met hc
  · simpa using hout.excess hpos
  · obtain ⟨rfl, rfl⟩ := hout.ended hend
    exact ⟨rfl, rfl⟩

end Sys2Proof.Proofs
end

section
/-! PROOFS. The fetch, the step as the decoded instruction, the interrupt mask, dispatch and the wait states (30_encoding.md
section 2, 60_exceptions.md sections 2 and 3): O39, O40, O44, O46, O47. -/

namespace Sys2Proof.Proofs

open Sys2Proof Sys2Proof.Machine Sys2Proof.Claims

/-! ### The bytes a fetch reads -/

theorem readBytes_succ (n : Nat) (addr : Word) (s : State) :
    readBytes (n + 1) addr s =
      ((memRead addr s).1 :: (readBytes n (addr + 1) (memRead addr s).2).1,
        (readBytes n (addr + 1) (memRead addr s).2).2) := rfl

/-- The fetch is a read of the opcode byte and of as many operand bytes as its entry counts (R101). -/
theorem readBytes_fetch (t : IsaTable) (s : State) :
    ∃ b1 b2, (fetch t s).instr = (t (fetch t s).op).instr (fetch t s).op b1 b2 ∧
      readBytes ((t (fetch t s).op).operandCount + 1) s.pc s =
        ((fetch t s).op :: [b1, b2].take (t (fetch t s).op).operandCount, (fetch t s).after) := by
  refine ⟨_, _, rfl, ?_⟩
  have hnext : s.pc + 1 + 1 = s.pc + 2 := by ring
  have hcount : (t (memRead s.pc s).1).operandCount = 0 ∨ (t (memRead s.pc s).1).operandCount = 1 ∨
      (t (memRead s.pc s).1).operandCount = 2 := by
    cases t (memRead s.pc s).1 <;> simp [OpcodeEntry.operandCount]
  rcases hcount with h | h | h <;> simp only [fetch, h, readBytes, hnext] <;> rfl

/-- Settles O39: the operand bytes of the instruction are those that its entry counts, and under the default table the
opcode is the byte fetched. -/
theorem fetchReadsTheEncoding : Obligations.FetchReadsTheEncoding := by
  refine ⟨fun t s ht => ?_, fun s => ?_⟩
  · intro f bytes
    obtain ⟨b1, b2, hinstr, hread⟩ := readBytes_fetch t s
    obtain ⟨hoperands, hill, hlegal⟩ := Laws.instr_spec_of_valid ht (fetch t s).op b1 b2
    rw [← hinstr] at hoperands hill hlegal
    have hle : (t f.op).operandCount ≤ 2 := by
      cases t f.op <;> simp [OpcodeEntry.operandCount]
    have hbytes : bytes = f.op :: [b1, b2].take (t f.op).operandCount := congrArg (f.op :: ·) hoperands
    have hlength : bytes.length = (t f.op).operandCount + 1 := by
      rw [hbytes, List.length_cons, List.length_take, List.length_cons, List.length_cons, List.length_nil, Nat.min_eq_left hle]
    refine ⟨by rw [hlength, hread, hbytes], hill, fun hf => ?_⟩
    cases hi : (t f.op).isIllegal with
    | true => rfl
    | false => exact absurd hf (hlegal hi f.op)
  · intro f
    obtain ⟨b1, b2, hinstr, -⟩ := readBytes_fetch opcodeEntry s
    obtain ⟨hwf, hop, -⟩ := Laws.instrOf_spec f.op b1 b2
    change (fetch opcodeEntry s).instr = instrOf f.op b1 b2 at hinstr
    rw [← hinstr] at hwf hop
    exact ⟨hwf, by rw [encode, hop]⟩

/-! ### A fetch from stored bytes -/

theorem memRead_stored (addr : Word) (s : State) (h : region addr = .ram ∨ region addr = .rom) :
    memRead addr s = (s.mem.read addr.toNat, s) :=
  h.elim (memRead_ram addr s) (memRead_rom addr s)

/-- Where the bytes of an instruction are stored ones, the fetch gives what the decoder makes of them, without a side
effect. -/
theorem fetch_stored {t : IsaTable} (ht : t.Valid) {s : State} {i : Instr} {rest : List Byte}
    (hdecode : decodeWith t [s.mem.read s.pc.toNat, s.mem.read (s.pc + 1).toNat, s.mem.read (s.pc + 2).toNat] =
      .ok (i, rest))
    (hstored : ∀ k < (encode i).length, region (s.pc + BitVec.ofNat 16 k) = .ram ∨
      region (s.pc + BitVec.ofNat 16 k) = .rom) :
    fetch t s = { op := s.mem.read s.pc.toNat, instr := i, after := s } := by
  generalize hb0 : s.mem.read s.pc.toNat = b0 at hdecode
  generalize hb1 : s.mem.read (s.pc + 1).toNat = b1 at hdecode
  generalize hb2 : s.mem.read (s.pc + 2).toNat = b2 at hdecode
  have hi : (t b0).instr b0 b1 b2 = i := by
    rw [decodeWith] at hdecode
    split at hdecode
    case isTrue => cases hdecode
    case isFalse => exact congrArg Prod.fst (Except.ok.inj hdecode)
  have hlength : (encode i).length = (t b0).operandCount + 1 := by
    obtain ⟨hoperands, -, -⟩ := Laws.instr_spec_of_valid ht b0 b1 b2
    rw [encode, ← hi, hoperands, List.length_cons]
    cases t b0 <;> rfl
  have hread (k : Nat) (hk : k < (t b0).operandCount + 1) :
      memRead (s.pc + BitVec.ofNat 16 k) s = (s.mem.read (s.pc + BitVec.ofNat 16 k).toNat, s) :=
    memRead_stored _ s (hstored k (hlength ▸ hk))
  have h0 : memRead s.pc s = (b0, s) := by simpa [hb0] using hread 0 (by omega)
  have h1 : 1 ≤ (t b0).operandCount → memRead (s.pc + 1) s = (b1, s) := fun h =>
    (hread 1 (by omega)).trans (by rw [← hb1]; rfl)
  have h2 : 2 ≤ (t b0).operandCount → memRead (s.pc + 2) s = (b2, s) := fun h =>
    (hread 2 (by omega)).trans (by rw [← hb2]; rfl)
  have e1 : (if 1 ≤ (t b0).operandCount then memRead (s.pc + 1) s else (0, s)) =
      (if 1 ≤ (t b0).operandCount then b1 else 0, s) := by
    split
    case isTrue h => exact h1 h
    case isFalse => rfl
  have e2 : (if 2 ≤ (t b0).operandCount then memRead (s.pc + 2) s else (0, s)) =
      (if 2 ≤ (t b0).operandCount then b2 else 0, s) := by
    split
    case isTrue h => exact h2 h
    case isFalse => rfl
  have hinstr : (t b0).instr b0 (if 1 ≤ (t b0).operandCount then b1 else 0)
      (if 2 ≤ (t b0).operandCount then b2 else 0) = (t b0).instr b0 b1 b2 := by
    cases t b0 <;> rfl
  simp only [fetch, h0, e1, e2, hinstr, hi]

theorem runsDecoded_of_valid (p : Params) (hp : p.isaTable.Valid) : RunsDecoded p (stepWith p) := by
  intro s i rest hc hw hq hdecode hstored
  have hfetch := fetch_stored hp hdecode hstored
  obtain ⟨t, ht⟩ := exec_total i s
  refine ⟨t, ht, stepWith_of_counted p s _ (p.cost (s.mem.read s.pc.toNat)) ?_⟩
  rw [stepCounted_run p s hc hw, boundary_execute p _ s hq, executeNext, hfetch]
  simp only [ht]
  rfl

/-- Settles O40: under a table of rows, the default one among them. -/
theorem stepRunsDecodedInstruction : Obligations.StepRunsDecodedInstruction :=
  ⟨runsDecoded_of_valid Params.default Laws.opcodeEntry_valid, runsDecoded_of_valid,
    fun bytes rest i h => ⟨h, (encodeOfDecode bytes rest i h).1⟩⟩

/-! ### Taking an interrupt -/

/-- Taking an interrupt: the frame of the state before, I set, pc from the vector in the image (R310, R311). -/
theorem takeInterrupt_eq (vec : Word) (s : State) (h : region vec = .rom) (h' : region (vec + 1) = .rom) :
    takeInterrupt vec s = { writesOf s (pushFrame s) with
      sp := s.sp - 7
      ccr := { s.ccr with i := true }
      pc := s.mem.read vec.toNat ++ s.mem.read (vec + 1).toNat } := by
  have himage (a : Word) (ha : region a = .rom) : (pushFrame s).mem.read a.toNat = s.mem.read a.toNat :=
    pushFrame_image s a.toNat ((region_rom_iff a).1 ha)
  obtain ⟨m, t, p, e, hframe⟩ := pushFrame_touches s
  rw [takeInterrupt, enterHandler_rom _ _ h h', himage _ h, himage _ h', hframe]
  rfl

/-- A run of writes looks at the bus alone. -/
theorem writeDown_withBus (bytes : List Byte) (addr : Word) (c s : State) :
    writeDown bytes addr (c.withBus s) = c.withBus (writeDown bytes addr s) := by
  induction bytes generalizing addr s with
  | nil => rfl
  | cons v rest ih => rw [writeDown_cons, memWrite_withBus, ih, writeDown_cons]

/-- The frame of a waking core is that of the core asleep. -/
theorem pushFrame_setWaitState (w : WaitState) (s : State) :
    pushFrame { s with waitState := w } = { pushFrame s with waitState := w } := by
  have hrun : writeDown (frameBytes s.pc s) s.sp { s with waitState := w } =
      { s with waitState := w }.withBus (writeDown (frameBytes s.pc s) s.sp s) :=
    writeDown_withBus (frameBytes s.pc s) s.sp { s with waitState := w } s
  rw [pushFrame_eq_writeDown, pushFrame_eq_writeDown s]
  change State.withBus { s with waitState := w, sp := s.sp - 7 }
    (writeDown (frameBytes s.pc s) s.sp { s with waitState := w }) = _
  rw [hrun]
  rfl

/-- A request comes from the timer or from the serial peripheral, and both vectors lie in the image (R304, R305, R309). -/
theorem pendingVector_some {s : State} {v : Word} (h : s.pendingVector = some v) : v = vecOcf ∨ v = vecSci := by
  rw [s.pendingVector_eq] at h
  split at h
  case isTrue => exact .inl (Option.some.inj h).symm
  case isFalse =>
    split at h
    case isTrue => exact .inr (Option.some.inj h).symm
    case isFalse => cases h

/-- R308, R311: a pending source that nothing masks is dispatched, from sleep as well. -/
theorem stepWith_dispatch (p : Params) {s : State} {v : Word} (hc : s.crashed = false) (hw : s.waitState ≠ .wai)
    (hi : s.ccr.i = false) (hv : s.pendingVector = some v) :
    stepWith p s = .next ((takeInterrupt v { s with waitState := .run }).tick p.dispatchCycles) := by
  obtain ⟨t, n, h, hcase⟩ := stepCounted_cases p s
  rw [stepWith_of_counted p s t n h]
  cases hcase with
  | crashed hc' => exact absurd hc' (by simp [hc])
  | idle hc' hw' hq => simp [hv, hi] at hq
  | leaveWai v' hc' hw' hv' hi' => exact absurd hw' hw
  | dispatch v' hc' hw' hv' hi' =>
    cases hv.symm.trans hv'
    rfl
  | execute t hc' hw' hawake hq he => simp [hv, hi] at hq

/-- Settles O46: the request lines select the vector, and the dispatch takes the interrupt at it. -/
theorem dispatchByPriority : Obligations.DispatchByPriority := by
  intro p s hc hw hi timerAsks serialAsks entered
  have hdispatch (v : Word) (hv : s.pendingVector = some v) (h : region v = .rom) (h' : region (v + 1) = .rom) :
      stepWith p s = .next (entered v.toNat (v + 1).toNat) := by
    rw [stepWith_dispatch p hc hw hi hv, takeInterrupt_eq v _ h h', pushFrame_setWaitState]
    simp only [entered]
    generalize pushFrame s = frame
    rfl
  have htimer : s.timer.irq = true ↔ timerAsks := timer_irq_iff s.timer
  have hserial : s.serial.irq = true ↔ serialAsks := serial_irq_iff s.serial
  have hvector := s.pendingVector_eq
  refine ⟨fun ht => ?_, fun ht hs => ?_, fun ht hs => ?_⟩
  · rw [if_pos (htimer.2 ht)] at hvector
    exact hdispatch vecOcf hvector (by decide) (by decide)
  · rw [if_neg (mt htimer.1 ht), if_pos (hserial.2 hs)] at hvector
    exact hdispatch vecSci hvector (by decide) (by decide)
  · rwa [if_neg (mt htimer.1 ht), if_neg (mt hserial.1 hs)] at hvector

/-! ### The wait states -/

/-- An idle cycle: of WAI with nothing pending or I = 1, of SLP with nothing pending. -/
theorem stepWith_idle (p : Params) {s : State} (hc : s.crashed = false) (hw : s.waitState ≠ .run)
    (hq : s.pendingVector = none ∨ s.waitState = .wai ∧ s.ccr.i = true) :
    stepWith p s = .next (s.tick p.idleCycles) := by
  obtain ⟨t, n, h, hcase⟩ := stepCounted_cases p s
  rw [stepWith_of_counted p s t n h]
  cases hcase with
  | crashed hc' => exact absurd hc' (by simp [hc])
  | idle hc' hw' hq' => rfl
  | leaveWai v hc' hw' hv hi => simp [hv, hi] at hq
  | dispatch v hc' hw' hv hi => simp [hv, hi] at hq
  | execute t hc' hw' hawake hq' he =>
    rcases hq with hq | ⟨hwai, -⟩
    · exact absurd (hawake hq) hw
    · exact absurd hwai hw'

/-- Settles O47: the idle steps by one law, the end of WAI by that of entering a handler in the image, and the waking from SLP
by that of the boundary. -/
theorem waitStates : Obligations.WaitStates := by
  intro p s hc
  refine ⟨fun hw hq => ?_, fun hw hi v hv => ?_, fun hw hq => ?_, fun hw hq => ?_⟩
  · exact stepWith_idle p hc (by simp [hw]) (hq.imp id fun hi => ⟨hw, hi⟩)
  · have hstep : stepCounted p s = .next (spend p.waiExitCycles (enterHandler v { s with waitState := .run })) := by
      rw [stepCounted_wai p s hc hw, hv]
      simp only [hi]
      rfl
    rw [stepWith_of_counted p s _ _ hstep]
    rcases pendingVector_some hv with rfl | rfl <;> rw [enterHandler_rom _ _ (by decide) (by decide)] <;> rfl
  · exact stepWith_idle p hc (by simp [hw]) (.inl hq)
  · obtain ⟨v, hv⟩ := Option.ne_none_iff_exists'.1 hq
    have hawake : stepCounted p { s with waitState := .run } = boundary p s.pendingVector { s with waitState := .run } :=
      stepCounted_run p { s with waitState := .run } hc rfl
    rw [stepWith, stepWith, stepCounted_slp p s hc hw, hawake, hv]

/-! ### The interrupt mask

Every instruction but CLI, TAP and RTI leaves I = 1 as it is, because its flags are those of the rules, which do not name I,
because it writes no flag, or because it sets I. -/

theorem next_masked {t u : State} (h : (.next u : Result) = .next t) (hu : u.ccr.i = true) : t.ccr.i = true := by
  cases h
  exact hu

theorem setWaitState_masked {u : State} (w : WaitState) (hu : u.ccr.i = true) :
    ({ u with waitState := w } : State).ccr.i = true :=
  hu

section Masked

variable {s : State} (hs : s.ccr.i = true)

theorem takeInterrupt_masked (vec : Word) (s : State) : (takeInterrupt vec s).ccr.i = true := by
  obtain ⟨t, p, n, h⟩ := memRead16_touches vec ((pushFrame s).setCcr { (pushFrame s).ccr with i := true })
  rw [takeInterrupt, enterHandler, State.jump_ccr, h]
  rfl

include hs

theorem memRead_masked (addr : Word) : (memRead addr s).2.ccr.i = true := by
  rw [memRead_frame]
  exact hs

theorem operand8_masked (src : Src8) : (operand8 src s).2.ccr.i = true := by
  obtain ⟨t, p, n, h⟩ := operand8_touches src s
  rw [h]
  exact hs

theorem operand16_masked (src : Src16) : (operand16 src s).2.ccr.i = true := by
  obtain ⟨t, p, n, h⟩ := operand16_touches src s
  rw [h]
  exact hs

theorem push8_masked (v : Byte) : (push8 v s).ccr.i = true := by
  rwa [push8_ccr]

theorem push16_masked (v : Word) : (push16 v s).ccr.i = true := by
  rwa [push16_ccr]

theorem pushFrame_masked : (pushFrame s).ccr.i = true := by
  rw [pushFrame_frame]
  exact hs

theorem pull16_masked : (pull16 s).2.ccr.i = true := by
  rw [pull16_eq]
  exact hs

theorem pullAcc_masked (r : Acc) : (pullAcc r s).ccr.i = true := by
  rw [pullAcc, State.advance_ccr, State.setAcc_ccr, pull8_eq]
  exact hs

theorem branch_masked (k : Cond) (rr : Byte) : (branch k rr s).ccr.i = true := by
  unfold branch
  split <;> exact hs

theorem load8_masked (r : Acc) (src : Src8) : (load8 r src s).ccr.i = true :=
  operand8_masked hs src

theorem load16_masked (r : Reg16) (src : Src16) : (load16 r src s).ccr.i = true :=
  operand16_masked hs src

theorem accOp8_masked {f : Ccr → Byte → Byte → Byte × Ccr} (hf : ∀ cc a m, (f cc a m).2.i = cc.i) (r : Acc) (src : Src8) :
    (accOp8 f r src s).ccr.i = true :=
  (hf _ _ _).trans (operand8_masked hs src)

theorem accTest8_masked {f : Ccr → Byte → Byte → Byte × Ccr} (hf : ∀ cc a m, (f cc a m).2.i = cc.i) (r : Acc)
    (src : Src8) : (accTest8 f r src s).ccr.i = true :=
  (hf _ _ _).trans (operand8_masked hs src)

theorem dOp16_masked {f : Ccr → Word → Word → Word × Ccr} (hf : ∀ cc a m, (f cc a m).2.i = cc.i) (src : Src16) :
    (dOp16 f src s).ccr.i = true :=
  (hf _ _ _).trans (operand16_masked hs src)

theorem compareX_masked (src : Src16) : (compareX src s).ccr.i = true :=
  operand16_masked hs src

theorem modifyByte_masked {f : Ccr → Byte → Byte × Ccr} (hf : ∀ cc m, (f cc m).2.i = cc.i) (m : Ea) :
    (modifyByte f m s).ccr.i = true :=
  (hf _ _).trans (memRead_masked hs _)

theorem maskByte_masked {f : Ccr → Byte → Byte → Byte × Ccr} (hf : ∀ cc a m, (f cc a m).2.i = cc.i) (mask : Byte) (m : Ea) :
    (maskByte f mask m s).ccr.i = true :=
  modifyByte_masked hs (fun cc v => hf cc v mask) m

/-- R27, R307: of the instructions only CLI, TAP and RTI clear I, by the shape of each instruction's effect. -/
theorem exec_masked {i : Instr} {t : State} (h : exec i s = .next t) :
    t.ccr.i = true ∨ i = .cli ∨ i = .tap ∨ i = .rti := by
  cases i with
  | illegal _ | nop | lsrd | asld | tpa | inx | dex | clv | sev | clc | sec | cba | tab | tba | xgdx | tsx | ins
  | des | txs | abx | mul | tsta | clra | tstb | clrb | jmpIdx _ | jmpExt _ | sba | aba | daa | slp | nega | coma
  | lsra | rora | asra | asla | rola | deca | inca | negb | comb | lsrb | rorb | asrb | aslb | rolb | decb | incb
  | clrIdx _ | clrExt _ | staaDir _ | staaIdx _ | staaExt _ | stabDir _ | stabIdx _ | stabExt _ | stsDir _
  | stsIdx _ | stsExt _ | stdDir _ | stxDir _ | stdIdx _ | stxIdx _ | stdExt _ | stxExt _ =>
    exact .inl (next_masked h hs)
  | sei => exact .inl (next_masked h rfl)
  | cli => exact .inr (.inl rfl)
  | tap => exact .inr (.inr (.inl rfl))
  | rti => exact .inr (.inr (.inr rfl))
  | bra _ | brn _ | bhi _ | bls _ | bcc _ | bcs _ | bne _ | beq _ | bvc _ | bvs _ | bpl _ | bmi _ | bge _ | blt _
  | bgt _ | ble _ => exact .inl (next_masked h (branch_masked hs _ _))
  | psha | pshb => exact .inl (next_masked h (push8_masked hs _))
  | pshx | bsr _ | jsrDir _ | jsrIdx _ | jsrExt _ => exact .inl (next_masked h (push16_masked hs _))
  | wai => exact .inl (next_masked h (setWaitState_masked .wai (pushFrame_masked (s := s.advance 1) hs)))
  | swi => exact .inl (next_masked h (takeInterrupt_masked _ _))
  | pula | pulb => exact .inl (next_masked h (pullAcc_masked hs _))
  | pulx | rts => exact .inl (next_masked h (pull16_masked hs))
  | timIdx _ _ | timDir _ _ | tstIdx _ | tstExt _ => exact .inl (next_masked h (memRead_masked hs _))
  | ldaaImm _ | ldaaDir _ | ldaaIdx _ | ldaaExt _ | ldabImm _ | ldabDir _ | ldabIdx _ | ldabExt _ =>
    exact .inl (next_masked h (load8_masked hs _ _))
  | ldsImm _ | ldsDir _ | ldsIdx _ | ldsExt _ | lddImm _ | ldxImm _ | lddDir _ | ldxDir _ | lddIdx _ | ldxIdx _
  | lddExt _ | ldxExt _ => exact .inl (next_masked h (load16_masked hs _ _))
  | subaImm _ | sbcaImm _ | andaImm _ | eoraImm _ | adcaImm _ | oraaImm _ | addaImm _ | subaDir _ | sbcaDir _
  | andaDir _ | eoraDir _ | adcaDir _ | oraaDir _ | addaDir _ | subaIdx _ | sbcaIdx _ | andaIdx _ | eoraIdx _
  | adcaIdx _ | oraaIdx _ | addaIdx _ | subaExt _ | sbcaExt _ | andaExt _ | eoraExt _ | adcaExt _ | oraaExt _
  | addaExt _ | subbImm _ | sbcbImm _ | andbImm _ | eorbImm _ | adcbImm _ | orabImm _ | addbImm _ | subbDir _
  | sbcbDir _ | andbDir _ | eorbDir _ | adcbDir _ | orabDir _ | addbDir _ | subbIdx _ | sbcbIdx _ | andbIdx _
  | eorbIdx _ | adcbIdx _ | orabIdx _ | addbIdx _ | subbExt _ | sbcbExt _ | andbExt _ | eorbExt _ | adcbExt _
  | orabExt _ | addbExt _ => exact .inl (next_masked h (accOp8_masked hs (fun _ _ _ => rfl) _ _))
  | cmpaImm _ | bitaImm _ | cmpaDir _ | bitaDir _ | cmpaIdx _ | bitaIdx _ | cmpaExt _ | bitaExt _ | cmpbImm _
  | bitbImm _ | cmpbDir _ | bitbDir _ | cmpbIdx _ | bitbIdx _ | cmpbExt _ | bitbExt _ =>
    exact .inl (next_masked h (accTest8_masked hs (fun _ _ _ => rfl) _ _))
  | subdImm _ | subdDir _ | subdIdx _ | subdExt _ | adddImm _ | adddDir _ | adddIdx _ | adddExt _ =>
    exact .inl (next_masked h (dOp16_masked hs (fun _ _ _ => rfl) _))
  | cpxImm _ | cpxDir _ | cpxIdx _ | cpxExt _ => exact .inl (next_masked h (compareX_masked hs _))
  | negIdx _ | comIdx _ | lsrIdx _ | rorIdx _ | asrIdx _ | aslIdx _ | rolIdx _ | decIdx _ | incIdx _ | negExt _
  | comExt _ | lsrExt _ | rorExt _ | asrExt _ | aslExt _ | rolExt _ | decExt _ | incExt _ =>
    exact .inl (next_masked h (modifyByte_masked hs (fun _ _ => rfl) _))
  | aimIdx _ _ | oimIdx _ _ | eimIdx _ _ | aimDir _ _ | oimDir _ _ | eimDir _ _ =>
    exact .inl (next_masked h (maskByte_masked hs (fun _ _ _ => rfl) _ _))

end Masked

/-- Settles O44: with I = 1 a step waits or executes an instruction, and then it is for that instruction to clear I. -/
theorem onlyThreeInstructionsUnmask : Obligations.OnlyThreeInstructionsUnmask := by
  intro p s t h hmasked hopen
  obtain ⟨n, hcounted⟩ := stepWith_inv h
  cases stepCounted_inv hcounted with
  | crashed hc => exact absurd hmasked (by simp [hopen])
  | idle hc hw hq => exact absurd hmasked (by simpa using hopen)
  | leaveWai v hc hw hv hi => exact absurd hmasked (by simp [hi])
  | dispatch v hc hw hv hi => exact absurd hmasked (by simp [hi])
  | execute t hc hw hawake hq he =>
    refine (exec_masked ?_ he).resolve_left fun hi => ?_
    · exact hmasked
    · exact absurd hi (by simpa using hopen)

end Sys2Proof.Proofs
end

section
/-! PROOFS. Memory, the timer's window addresses, the outbound queue, operand sources and costs (20_memory.md section 2,
60_exceptions.md sections 4 and 5, 30_encoding.md): O5, O6, O7, O8, O11, O41, O52. -/

namespace Sys2Proof.Proofs

open Sys2Proof Sys2Proof.Machine Sys2Proof.Claims

/-! ### Stored bytes -/

/-- Settles O5: the laws of a write to RAM, and of reading a stored byte. -/
theorem ramReadsBack : Obligations.RamReadsBack := by
  intro addr v s hwf hlo hhi
  have hram : region addr = .ram := (region_ram_iff addr).2 ⟨hlo, by omega⟩
  refine ⟨?_, memWrite_wf addr v s hwf, memWrite_off_window addr v s (by simp [hram]), fun other hne hreg hunmapped => ?_⟩
  · rw [memRead_ram _ _ hram, memWrite_read_same addr v s hwf hram]
  · have hstored : region other = .ram ∨ region other = .rom := by
      cases h : region other with
      | reg => exact absurd h hreg
      | ram => exact .inl rfl
      | rom => exact .inr rfl
      | unmapped => exact absurd h hunmapped
    rw [memRead_stored other _ hstored, memRead_stored other _ hstored]
    exact memWrite_read_other addr v s other.toNat (mt BitVec.eq_of_toNat_eq hne)

/-! ### Addresses without storage -/

/-- R67: a read of an unowned window address gives an arbitrary byte. -/
theorem regRead_unowned (addr : Word) (s : State) (h : addr.toNat ∉ ownedAddresses) : regRead addr s = s.drawByte := by
  simp only [ownedAddresses, List.mem_cons, List.not_mem_nil, or_false, not_or] at h
  unfold regRead
  split
  case h_8 => rfl
  all_goals simp_all only [not_true_eq_false, false_and, and_false]

/-- R67: a write to an unowned window address is a PORT event. -/
theorem regWrite_unowned (addr : Word) (v : Byte) (s : State) (h : addr.toNat ∉ ownedAddresses) :
    regWrite addr v s = { s with portEvents := s.portEvents ++ [(addr.toNat, v)] } := by
  simp only [ownedAddresses, List.mem_cons, List.not_mem_nil, or_false, not_or] at h
  unfold regWrite
  split
  case h_9 => rfl
  all_goals simp_all only [not_true_eq_false, false_and, and_false]

/-- Settles O6: by the region of the address, and in the window by its owner. -/
theorem addressesWithoutStorage : Obligations.AddressesWithoutStorage := by
  intro addr v s
  refine ⟨fun h => ?_, fun h => ?_, fun hwindow hunowned => ?_, memRead_reg _ _ ((region_reg_iff _).2 (by decide))⟩
  · have hrom : region addr = .rom := (region_rom_iff addr).2 h
    exact ⟨memWrite_rom addr v s hrom, memRead_rom addr s hrom⟩
  · have hunmapped : region addr = .unmapped := (region_unmapped_iff addr).2 (by omega)
    exact ⟨memWrite_unmapped addr v s hunmapped, memRead_unmapped addr s hunmapped⟩
  · have hreg : region addr = .reg := (region_reg_iff addr).2 hwindow
    exact ⟨(memRead_reg addr s hreg).trans (regRead_unowned addr s hunowned),
      (memWrite_reg addr v s hreg).trans (regWrite_unowned addr v s hunowned)⟩

/-! ### The timer's addresses -/

/-- R32: OCF is worth 64 in TCSR, above the five stored bits. -/
theorem tcsr_eq_ofNat (t : Timer) : t.tcsr = BitVec.ofNat 8 (64 * t.ocf.toNat + t.tcsrLo.toNat) := by
  have hvalue : t.tcsr.toNat = 64 * t.ocf.toNat + t.tcsrLo.toNat := by
    simp only [Timer.tcsr_eq, toNat_append_eq_add, BitVec.toNat_ofBool, BitVec.toNat_ofNat]
    ring
  rw [← hvalue, BitVec.ofNat_toNat, BitVec.setWidth_eq]

/-- R325: a read with OCF = 1 arms the clear, with OCF = 0 it changes nothing. -/
theorem timer_arm_eq (t : Timer) : t.arm = { t with ocfArmed := if t.ocf then true else t.ocfArmed } := by
  rw [Timer.arm_eq]
  cases t.ocf <;> simp

/-- R327: an armed clear is completed. -/
theorem timer_finishClear_eq (t : Timer) :
    t.finishClear = { t with ocf := if t.ocfArmed then false else t.ocf, ocfArmed := false } := by
  obtain ⟨counter, ocr, ocf, tcsrLo, armed, tof, tofArmed⟩ := t
  cases armed <;> rfl

theorem memRead_tcsr (s : State) : memRead 0x08#16 s = (s.timer.tcsr, { s with timer := s.timer.arm }) :=
  memRead_reg _ _ ((region_reg_iff _).2 (by decide))

theorem memRead_counterHigh (s : State) : memRead 0x09#16 s = (highByte s.timer.counter, s) :=
  memRead_reg _ _ ((region_reg_iff _).2 (by decide))

theorem memRead_counterLow (s : State) : memRead 0x0A#16 s = (lowByte s.timer.counter, s) :=
  memRead_reg _ _ ((region_reg_iff _).2 (by decide))

theorem memRead_ocrHigh (s : State) : memRead 0x0B#16 s = (highByte s.timer.ocr, s) :=
  memRead_reg _ _ ((region_reg_iff _).2 (by decide))

theorem memRead_ocrLow (s : State) : memRead 0x0C#16 s = (lowByte s.timer.ocr, s) :=
  memRead_reg _ _ ((region_reg_iff _).2 (by decide))

theorem memWrite_tcsr (v : Byte) (s : State) :
    memWrite 0x08#16 v s = { s with timer := { s.timer with tcsrLo := v.extractLsb' 0 5 } } :=
  memWrite_reg _ _ _ ((region_reg_iff _).2 (by decide))

theorem memWrite_counterHigh (v : Byte) (s : State) : memWrite 0x09#16 v s = s :=
  memWrite_reg _ _ _ ((region_reg_iff _).2 (by decide))

theorem memWrite_counterLow (v : Byte) (s : State) : memWrite 0x0A#16 v s = s :=
  memWrite_reg _ _ _ ((region_reg_iff _).2 (by decide))

theorem memWrite_ocrHigh (v : Byte) (s : State) :
    memWrite 0x0B#16 v s = { s with timer := { s.timer with ocr := v ++ lowByte s.timer.ocr }.finishClear } :=
  memWrite_reg _ _ _ ((region_reg_iff _).2 (by decide))

theorem memWrite_ocrLow (v : Byte) (s : State) :
    memWrite 0x0C#16 v s = { s with timer := { s.timer with ocr := highByte s.timer.ocr ++ v }.finishClear } :=
  memWrite_reg _ _ _ ((region_reg_iff _).2 (by decide))

/-- A word from its two bytes, as a number. -/
theorem append_eq_ofNat (hi lo : Byte) : (hi ++ lo : Word) = BitVec.ofNat 16 (256 * hi.toNat + lo.toNat) := by
  rw [← toNat_append_byte, BitVec.ofNat_toNat, BitVec.setWidth_eq]

theorem highByte_toNat (w : Word) : (highByte w).toNat = w.toNat / 256 := by
  rw [highByte_eq_ofNat_div, BitVec.toNat_ofNat]
  omega

theorem lowByte_toNat (w : Word) : (lowByte w).toNat = w.toNat % 256 := by
  rw [lowByte_eq_ofNat, BitVec.toNat_ofNat]

/-- Settles O7: address by address, the bytes brought to numbers. -/
theorem timerWindow : Obligations.TimerWindow := by
  intro v s
  refine ⟨?_, ?_, ?_, ?_, ?_, ?_, memWrite_counterHigh v s, memWrite_counterLow v s, ?_, ?_⟩
  · rw [memRead_tcsr, tcsr_eq_ofNat, timer_arm_eq]
  · rw [memRead_counterHigh, highByte_eq_ofNat_div]
  · rw [memRead_counterLow, lowByte_eq_ofNat]
  · rw [memRead_ocrHigh, highByte_eq_ofNat_div]
  · rw [memRead_ocrLow, lowByte_eq_ofNat]
  · rw [memWrite_tcsr, extractLsb'_zero_eq_ofNat]
  · rw [memWrite_ocrHigh, timer_finishClear_eq, append_eq_ofNat, lowByte_toNat]
  · rw [memWrite_ocrLow, timer_finishClear_eq, append_eq_ofNat, highByte_toNat]

/-- No read but that of TCSR arms, and none clears OCF (R321, R325). -/
theorem memRead_ocf (addr : Word) (s : State) :
    (memRead addr s).2.timer.ocf = s.timer.ocf ∧
      (memRead addr s).2.timer.ocfArmed = (s.timer.ocfArmed || (addr == 0x08#16 && s.timer.ocf)) := by
  obtain ⟨n, h⟩ := memRead_state addr s
  rw [h]
  by_cases htcsr : addr = 0x08#16
  · simp [htcsr, Timer.arm_eq]
  · simp [htcsr]

/-- No write but one to OCR with the clear armed clears OCF (R326, R327). -/
theorem memWrite_ocf (addr : Word) (v : Byte) (s : State) :
    (memWrite addr v s).timer.ocf = (s.timer.ocf && !(s.timer.ocfArmed && (addr == 0x0B#16 || addr == 0x0C#16))) := by
  have other (hhi : addr ≠ 0x0B#16) (hlo : addr ≠ 0x0C#16) : (memWrite addr v s).timer.ocf = s.timer.ocf := by
    by_cases hreg : region addr = .reg
    · have hhi' : addr.toNat ≠ 0x0B := fun h => hhi (BitVec.eq_of_toNat_eq h)
      have hlo' : addr.toNat ≠ 0x0C := fun h => hlo (BitVec.eq_of_toNat_eq h)
      rw [memWrite_reg _ _ _ hreg]
      unfold regWrite
      split
      case h_4 h => exact absurd h hhi'
      case h_5 h => exact absurd h hlo'
      all_goals rfl
    · rw [memWrite_off_window _ _ _ hreg]
  have armed (a o : Bool) : (if a then false else o) = (o && !a) := by cases a <;> simp
  by_cases hhi : addr = 0x0B#16
  · rw [hhi, memWrite_ocrHigh, timer_finishClear_eq]
    simp [armed]
  · by_cases hlo : addr = 0x0C#16
    · rw [hlo, memWrite_ocrLow, timer_finishClear_eq]
      simp [armed]
    · simp [other hhi hlo, hhi, hlo]

/-- Settles O8: the laws of OCF under a read and under a write. -/
theorem ocfClearedByArmedWriteOnly : Obligations.OcfClearedByArmedWriteOnly := by
  intro addr v s
  obtain ⟨hocf, harmed⟩ := memRead_ocf addr s
  exact ⟨hocf, harmed, memWrite_ocf addr v s, memWrite_counter addr v s⟩

/-! ### The outbound queue -/

/-- Bytes written to TDR with room for all of them are queued in order, and `sat` is not touched (R336). -/
theorem transmitAll_serial (bytes : List Byte) (s : State)
    (hroom : ∀ k < bytes.length, Config.txqHasRoom (s.serial.txq.length + k) = true) :
    (transmitAll bytes s).serial.txq = s.serial.txq ++ bytes ∧ (transmitAll bytes s).serial.sat = s.serial.sat ∧
      (transmitAll bytes s).serial.tdre = (s.serial.tdre && bytes.isEmpty) := by
  induction bytes generalizing s with
  | nil => simp [transmitAll]
  | cons v rest ih =>
    have hfirst : Config.hasRoom Config.txqCap s.serial.txq.length = true := hroom 0 (by simp)
    have hwrite : memWrite 0x13#16 v s =
        { s with serial := { s.serial with tdr := v, tdre := false, txq := s.serial.txq ++ [v] } } := by
      rw [memWrite_tdr, transmit_eq, if_pos hfirst, if_pos hfirst]
    have hrest : ∀ k < rest.length, Config.txqHasRoom ((memWrite 0x13#16 v s).serial.txq.length + k) = true := fun k hk => by
      have hlater := hroom (k + 1) (by simpa using hk)
      rw [hwrite]
      simpa [Nat.add_assoc, Nat.add_comm 1 k] using hlater
    obtain ⟨htxq, hsat, htdre⟩ := ih (memWrite 0x13#16 v s) hrest
    rw [transmitAll, htxq, hsat, htdre, hwrite]
    simp

/-- A queue is drained oldest byte first, then empty, and nothing else changes (R338). -/
theorem drainTimes_eq (q : List Byte) (s : State) (hq : s.serial.txq = q) :
    drainTimes (q.length + 1) s = (q.map some ++ [none], { s with serial := { s.serial with txq := [] } }) := by
  induction q generalizing s with
  | nil =>
    simp only [List.length_nil, drainTimes, drainOutbound_of_empty s hq, List.map_nil, List.nil_append]
    rw [← hq]
  | cons v rest ih =>
    rw [List.length_cons, drainTimes, drainOutbound_of_cons s v rest hq]
    simp only [ih { s with serial := { s.serial with txq := rest } } rfl, List.map_cons, List.cons_append]

/-- Settles O52: what has been queued in order is drained in order. -/
theorem outboundOrder : Obligations.OutboundOrder := by
  intro bytes s hempty hroom t
  obtain ⟨htxq, hsat, htdre⟩ := transmitAll_serial bytes s fun k hk => by simpa [hempty] using hroom k hk
  rw [hempty, List.nil_append] at htxq
  rw [drainTimes_eq bytes t htxq]
  refine ⟨rfl, rfl, hsat, fun hne => ?_⟩
  rw [List.isEmpty_eq_false_iff.2 hne, Bool.and_false] at htdre
  exact htdre

/-! ### Operand sources -/

/-- Settles O11: the effective addresses as numbers; the rest is the definition of an operand. -/
theorem operandSources : Obligations.OperandSources := by
  intro ii dd ff hhll jjkk m s
  refine ⟨?_, ?_, rfl, rfl, rfl, rfl, rfl⟩
  · exact BitVec.toNat_setWidth_of_le (by decide)
  · rw [Ea.addr, BitVec.toNat_add, BitVec.zeroExtend_eq_setWidth, BitVec.toNat_setWidth_of_le (by decide)]

/-! ### Cycle costs -/

theorem default_valid : Params.default.Valid where
  table := Laws.opcodeEntry_valid
  opcode := by decide
  dispatch := by decide
  waiExit := by decide
  idle := by decide

theorem default_costsAtMost : Params.default.CostsAtMost 12 where
  opcode := by decide
  dispatch := le_rfl
  waiExit := by decide
  idle := by decide

/-- Settles O41: the opcode of a form does not depend on its operand values, so its cost is that with operands of 0, which is
read off the table. -/
theorem cycleCosts : Obligations.CycleCosts := by
  intro ii dd ff rr hhll jjkk cost
  refine ⟨?byteForms, ?wordForms, ?byteStores, ?wordStores, ?jsr, ?memoryForms, ?maskForms, ?tim, ?branches, ?bsr,
    by decide, by decide, ⟨rfl, rfl, rfl⟩, default_valid, default_costsAtMost, Params.cost_illegal⟩
  case byteForms =>
    intro form hform
    have hzero : cost (form (.imm 0)) = 2 ∧ cost (form (.mem (.dir 0))) = 3 ∧ cost (form (.mem (.idx 0))) = 4 ∧
        cost (form (.mem (.ext 0))) = 4 := by
      revert form
      decide
    fin_cases hform <;> exact hzero
  case wordForms =>
    intro form hform
    have hzero : cost (form (.imm 0)) = 3 ∧ cost (form (.mem (.dir 0))) = 4 ∧ cost (form (.mem (.idx 0))) = 5 ∧
        cost (form (.mem (.ext 0))) = 5 := by
      revert form
      decide
    fin_cases hform <;> exact hzero
  case byteStores =>
    intro form hform
    have hzero : cost (form (.dir 0)) = 3 ∧ cost (form (.idx 0)) = 4 ∧ cost (form (.ext 0)) = 4 := by
      revert form
      decide
    fin_cases hform <;> exact hzero
  case wordStores =>
    intro form hform
    have hzero : cost (form (.dir 0)) = 4 ∧ cost (form (.idx 0)) = 5 ∧ cost (form (.ext 0)) = 5 := by
      revert form
      decide
    fin_cases hform <;> exact hzero
  case jsr =>
    have hzero : cost (formJsr (.dir 0)) = 5 ∧ cost (formJsr (.idx 0)) = 5 ∧ cost (formJsr (.ext 0)) = 6 := by decide
    exact hzero
  case memoryForms =>
    have hzero : ∀ m ∈ [EaIX.idx 0, EaIX.ext 0], cost (formJmp m) = 3 ∧ cost (formTst m) = 4 ∧ cost (formClr m) = 5 := by
      decide
    have hmodify : ∀ form ∈ [formNeg, formCom, formLsr, formRor, formAsr, formAsl, formRol, formDec, formInc],
        cost (form (.idx 0)) = 6 ∧ cost (form (.ext 0)) = 6 := by
      decide
    intro m
    cases m with
    | idx ff =>
      obtain ⟨hjmp, htst, hclr⟩ := hzero (.idx 0) (by decide)
      refine ⟨hjmp, htst, hclr, fun form hform => ?_⟩
      have hidx := (hmodify form hform).1
      fin_cases hform <;> exact hidx
    | ext hhll =>
      obtain ⟨hjmp, htst, hclr⟩ := hzero (.ext 0) (by decide)
      refine ⟨hjmp, htst, hclr, fun form hform => ?_⟩
      have hext := (hmodify form hform).2
      fin_cases hform <;> exact hext
  case maskForms =>
    intro form hform
    have hzero : cost (form 0 (.dir 0)) = 6 ∧ cost (form 0 (.idx 0)) = 7 := by
      revert form
      decide
    fin_cases hform <;> exact hzero
  case tim =>
    have hzero : cost (formTim 0 (.dir 0)) = 4 ∧ cost (formTim 0 (.idx 0)) = 5 := by decide
    exact hzero
  case branches =>
    intro branch hbranch
    have hzero : cost (branch 0) = 3 := by
      revert branch
      decide
    fin_cases hbranch <;> exact hzero
  case bsr =>
    have hzero : cost (.bsr 0) = 5 := by decide
    exact hzero

end Sys2Proof.Proofs
end

section
/-! PROOFS. The operations on one operand, the shifts and the correction of DAA in the arithmetic of the rules (41_arithmetic.md,
42_logic_shift_bit.md); and the shapes that the instructions share, each with its whole next state. -/

namespace Sys2Proof.Proofs

open Sys2Proof Sys2Proof.Machine Sys2Proof.Claims

/-! ### Flags of a moved and of a tested value -/

theorem move8_eq_flags8 (cc : Ccr) (v : Byte) : cc.move8 v = flags8 cc v false := by
  rw [Ccr.move8, nz8_eq]
  rfl

theorem move16_eq_flags16 (cc : Ccr) (v : Word) : cc.move16 v = flags16 cc v false := by
  rw [Ccr.move16, nz16_eq]
  rfl

theorem test_eq_flags8 (cc : Ccr) (v : Byte) : cc.test v = { flags8 cc v false with c := false } := by
  rw [Ccr.test, nz8_eq]
  rfl

/-! ### Operations on one operand -/

theorem neg8_eq_negated (cc : Ccr) (m : Byte) : neg8 cc m = negated cc m := by
  have hres : 0 - m = BitVec.ofNat 8 (256 - m.toNat) := by bv_omega
  have hv : decide (0 - m = 0x80) = decide (m.toNat = 128) := by
    rw [decide_eq_decide]
    bv_omega
  have hc : decide (0 - m ≠ 0x00) = decide (m.toNat ≠ 0) := by
    rw [decide_eq_decide]
    bv_omega
  rw [neg8, hv, hc, nz8_eq, hres]
  rfl

theorem inc8_eq_incremented (cc : Ccr) (m : Byte) : inc8 cc m = incremented cc m := by
  have hres : m + 1 = BitVec.ofNat 8 (m.toNat + 1) := by bv_omega
  have hv : decide (m = 0x7F) = decide (m.toNat = 127) := by
    rw [decide_eq_decide]
    bv_omega
  rw [inc8, hv, nz8_eq, hres]
  rfl

theorem dec8_eq_decremented (cc : Ccr) (m : Byte) : dec8 cc m = decremented cc m := by
  have hres : m - 1 = BitVec.ofNat 8 (m.toNat + 255) := by bv_omega
  have hv : decide (m = 0x80) = decide (m.toNat = 128) := by
    rw [decide_eq_decide]
    bv_omega
  rw [dec8, hv, nz8_eq, hres]
  rfl

theorem com8_eq_complemented (cc : Ccr) (m : Byte) : com8 cc m = complemented cc m := by
  have hres : ~~~m = BitVec.ofNat 8 (255 - m.toNat) := by
    apply BitVec.eq_of_toNat_eq
    rw [BitVec.toNat_not, BitVec.toNat_ofNat]
    omega
  rw [com8, hres, move8_eq_flags8]
  rfl

/-! ### Shifts and rotates -/

theorem shift8_eq_shifted (cc : Ccr) (res : Byte) (out : Bool) : (res, cc.shift8 res out) = shifted cc res out := by
  have hn : res.getLsbD 7 = decide (128 ≤ res.toNat) := BitVec.getLsbD_last res
  rw [Ccr.shift8, nz8_eq, hn]
  rfl

/-- A bit entering a byte at the right end. -/
theorem append_bit_right (v : Byte) (b : Bool) :
    (v.extractLsb' 0 7 ++ BitVec.ofBool b : Byte) = BitVec.ofNat 8 (2 * v.toNat + b.toNat) := by
  apply BitVec.eq_of_toNat_eq
  have hb : b.toNat ≤ 1 := b.toNat_le
  rw [toNat_append_eq_add, BitVec.extractLsb'_toNat, BitVec.toNat_ofBool, BitVec.toNat_ofNat]
  omega

/-- A bit entering a byte at the left end. -/
theorem append_bit_left (v : Byte) (b : Bool) :
    (BitVec.ofBool b ++ v.extractLsb' 1 7 : Byte) = BitVec.ofNat 8 (v.toNat / 2 + 128 * b.toNat) := by
  apply BitVec.eq_of_toNat_eq
  have hb : b.toNat ≤ 1 := b.toNat_le
  rw [toNat_append_eq_add, BitVec.extractLsb'_toNat, BitVec.toNat_ofBool, BitVec.toNat_ofNat, Nat.shiftRight_eq_div_pow]
  omega

theorem getLsbD_seven (v : Byte) : v.getLsbD 7 = decide (128 ≤ v.toNat) :=
  BitVec.getLsbD_last v

theorem getLsbD_zero {w : Nat} (v : BitVec w) : v.getLsbD 0 = decide (v.toNat % 2 = 1) := by
  rw [Bool.eq_iff_iff, getLsbD_iff_div_mod, decide_eq_true_iff]
  simp

theorem asl8_eq_shiftLeft (cc : Ccr) (v : Byte) : asl8 cc v = shiftLeft cc v := by
  rw [shiftLeft, ← shift8_eq_shifted, ← getLsbD_seven, asl8]
  exact congrArg (fun res : Byte => (res, cc.shift8 res (v.getLsbD 7))) (append_bit_right v false)

theorem rol8_eq_rotateLeft (cc : Ccr) (v : Byte) : rol8 cc v = rotateLeft cc v := by
  rw [rotateLeft, ← shift8_eq_shifted, ← getLsbD_seven, rol8, append_bit_right]

theorem lsr8_eq_shiftRight (cc : Ccr) (v : Byte) : lsr8 cc v = shiftRight cc v := by
  rw [shiftRight, ← shift8_eq_shifted, ← getLsbD_zero, lsr8]
  exact congrArg (fun res : Byte => (res, cc.shift8 res (v.getLsbD 0))) (append_bit_left v false)

theorem ror8_eq_rotateRight (cc : Ccr) (v : Byte) : ror8 cc v = rotateRight cc v := by
  rw [rotateRight, ← shift8_eq_shifted, ← getLsbD_zero, ror8, append_bit_left]

theorem asr8_eq_shiftRightSigned (cc : Ccr) (v : Byte) : asr8 cc v = shiftRightSigned cc v := by
  have hres : BitVec.ofNat 8 (v.toNat / 2 + 128 * (v.getLsbD 7).toNat) = BitVec.ofInt 8 (v.toInt / 2) := by
    have hlt : v.toNat < 256 := v.isLt
    apply BitVec.eq_of_toNat_eq
    rw [getLsbD_seven, BitVec.toNat_ofNat, BitVec.toNat_ofInt, BitVec.toInt_eq_toNat_cond]
    by_cases h : 128 ≤ v.toNat
    · rw [decide_eq_true h, if_neg (by omega), Bool.toNat_true]
      omega
    · rw [decide_eq_false h, if_pos (by omega), Bool.toNat_false]
      omega
  rw [shiftRightSigned, ← shift8_eq_shifted, ← getLsbD_zero, asr8, append_bit_left, hres]

/-! ### The bytes that a write stores -/

theorem byteStored_memWrite (addr : Word) (v : Byte) {s u : State} (hmem : u.mem = s.mem) :
    ByteStored addr v s (memWrite addr v u) := by
  rw [ByteStored, ← hmem]
  exact ⟨memWrite_read_other addr v u, fun h => by rw [memWrite_mem, if_neg h], memWrite_read_same addr v u⟩

theorem byteStored_read_of_not_ram {addr a : Word} {v : Byte} {s t : State} (h : ByteStored addr v s t)
    (ha : region a ≠ .ram) : t.mem.read a.toNat = s.mem.read a.toNat := by
  obtain ⟨hother, hoff, -⟩ := h
  by_cases heq : a = addr
  · rw [hoff (heq ▸ ha)]
  · exact hother a.toNat (mt BitVec.eq_of_toNat_eq heq)

/-- Two writes to different addresses, the second over a canonical memory. -/
theorem byteStored_pair {a b : Word} {v w : Byte} {s u t : State} (hne : a ≠ b) (ha : ByteStored a v s u)
    (hb : ByteStored b w u t) (hwf : s.mem.wf = true → u.mem.wf = true) :
    (∀ x : Nat, x ≠ a.toNat → x ≠ b.toNat → t.mem.read x = s.mem.read x) ∧
      (∀ c, region c ≠ .ram → t.mem.read c.toNat = s.mem.read c.toNat) ∧
      (s.mem.wf = true → region a = .ram → t.mem.read a.toNat = v) ∧
      (s.mem.wf = true → region b = .ram → t.mem.read b.toNat = w) := by
  have hoff (c : Word) (hc : region c ≠ .ram) : t.mem.read c.toNat = s.mem.read c.toNat :=
    (byteStored_read_of_not_ram hb hc).trans (byteStored_read_of_not_ram ha hc)
  obtain ⟨haother, -, hasame⟩ := ha
  obtain ⟨hbother, -, hbsame⟩ := hb
  refine ⟨fun x hxa hxb => (hbother x hxb).trans (haother x hxa), hoff, fun hs hram => ?_, fun hs => hbsame (hwf hs)⟩
  exact (hbother a.toNat (mt BitVec.eq_of_toNat_eq hne)).trans (hasame hs hram)

/-- A word stored high byte first (R70). -/
theorem wordStored_memWrite16 (addr v : Word) (s : State) : WordStored addr v s (memWrite16 addr v s) := by
  have hne : addr ≠ addr + 1 := by bv_omega
  obtain ⟨hother, hoff, hhi, hlo⟩ := byteStored_pair hne (byteStored_memWrite addr (highByte v) rfl)
    (byteStored_memWrite (addr + 1) (lowByte v) rfl) (memWrite_wf addr (highByte v) s)
  exact ⟨hother, hoff addr, hoff (addr + 1), fun hs hr => (congrArg _ (hhi hs hr)).trans (highByte_toNat v),
    fun hs hr => (congrArg _ (hlo hs hr)).trans (lowByte_toNat v)⟩

/-- A word stored low byte first, as a push does (R75). -/
theorem wordStored_push (sp v : Word) (s : State) :
    WordStored (sp - 1) v s (memWrite (sp - 1) (highByte v) (memWrite sp (lowByte v) s)) := by
  have hne : sp ≠ sp - 1 := by bv_omega
  have hnext : sp - 1 + 1 = sp := by ring
  obtain ⟨hother, hoff, hlo, hhi⟩ := byteStored_pair hne (byteStored_memWrite sp (lowByte v) rfl)
    (byteStored_memWrite (sp - 1) (highByte v) rfl) (memWrite_wf sp (lowByte v) s)
  rw [WordStored, hnext]
  exact ⟨fun a ha ha' => hother a ha' ha, hoff (sp - 1), hoff sp,
    fun hs hr => (congrArg _ (hhi hs hr)).trans (highByte_toNat v),
    fun hs hr => (congrArg _ (hlo hs hr)).trans (lowByte_toNat v)⟩

/-! ### The shapes and their next states -/

/-- `i` is `n` bytes long and takes `s` to `t`. -/
def RunsTo (i : Instr) (n : Nat) (s t : State) : Prop :=
  exec i s = .next t ∧ (encode i).length = n

theorem accOp8_eq (f : Ccr → Byte → Byte → Byte × Ccr) (r : Acc) (src : Src8) (s : State) :
    accOp8 f r src s =
      State.setAcc { readsOf s (operand8 src s).2 with
        ccr := (f s.ccr (s.acc r) (operand8 src s).1).2, pc := s.pc + BitVec.ofNat 16 src.length } r
        (f s.ccr (s.acc r) (operand8 src s).1).1 := by
  obtain ⟨t, p, n, hread⟩ := operand8_touches src s
  rw [accOp8, hread]
  cases r <;> rfl

theorem RunsTo.accFromOperand {i : Instr} {src : Src8} {s : State} {f : Ccr → Byte → Byte → Byte × Ccr} {r : Acc}
    {g : Byte → Byte × Ccr} (h : RunsTo i src.length s (accOp8 f r src s)) (hg : ∀ m, f s.ccr (s.acc r) m = g m) :
    AccFromOperand i r src s g := by
  obtain ⟨hexec, hlen⟩ := h
  rw [AccFromOperand, hexec, accOp8_eq, hg, pcAfter, hlen]

theorem accTest8_eq (f : Ccr → Byte → Byte → Byte × Ccr) (r : Acc) (src : Src8) (s : State) :
    accTest8 f r src s =
      { readsOf s (operand8 src s).2 with
        ccr := (f s.ccr (s.acc r) (operand8 src s).1).2, pc := s.pc + BitVec.ofNat 16 src.length } := by
  obtain ⟨t, p, n, hread⟩ := operand8_touches src s
  rw [accTest8, hread]
  cases r <;> rfl

theorem RunsTo.flagsFromOperand {i : Instr} {src : Src8} {s : State} {f : Ccr → Byte → Byte → Byte × Ccr} {r : Acc}
    {g : Byte → Ccr} (h : RunsTo i src.length s (accTest8 f r src s)) (hg : ∀ m, (f s.ccr (s.acc r) m).2 = g m) :
    FlagsFromOperand i src s g := by
  obtain ⟨hexec, hlen⟩ := h
  rw [FlagsFromOperand, hexec, accTest8_eq, hg, pcAfter, hlen]

theorem testMask_eq (mask : Byte) (m : Ea) (s : State) :
    testMask mask m s =
      { readsOf s (operand8 (.mem m) s).2 with
        ccr := (and8 s.ccr (operand8 (.mem m) s).1 mask).2, pc := s.pc + BitVec.ofNat 16 (2 + m.size) } := by
  obtain ⟨t, p, n, hread⟩ := memRead_touches (m.addr s) s
  rw [testMask, operand8, hread]
  rfl

theorem accUnary_eq (f : Ccr → Byte → Byte × Ccr) (r : Acc) (s : State) :
    accUnary f r s = State.setAcc { s with ccr := (f s.ccr (s.acc r)).2, pc := s.pc + 1 } r (f s.ccr (s.acc r)).1 := by
  cases r <;> rfl

theorem RunsTo.accFromAcc {i : Instr} {s : State} {f : Ccr → Byte → Byte × Ccr} {r : Acc} {g : Byte × Ccr}
    (h : RunsTo i 1 s (accUnary f r s)) (hg : f s.ccr (s.acc r) = g) : AccFromAcc i r s g := by
  obtain ⟨hexec, hlen⟩ := h
  rw [AccFromAcc, hexec, accUnary_eq, hg, pcAfter, hlen]
  rfl

theorem modifyByte_eq (f : Ccr → Byte → Byte × Ccr) (m : Ea) (s : State) :
    modifyByte f m s =
      { accessesOf s (memWrite (m.addr s) (f s.ccr (memRead (m.addr s) s).1).1 (memRead (m.addr s) s).2) with
        ccr := (f s.ccr (memRead (m.addr s) s).1).2, pc := s.pc + BitVec.ofNat 16 (1 + m.size) } := by
  obtain ⟨t, p, n, hread⟩ := memRead_touches (m.addr s) s
  have hccr : (memRead (m.addr s) s).2.ccr = s.ccr := by rw [hread]
  simp only [modifyByte, hccr]
  obtain ⟨mem, t', p', e, hwrite⟩ :=
    memWrite_touches (m.addr s) (f s.ccr (memRead (m.addr s) s).1).1 (memRead (m.addr s) s).2
  rw [hwrite, hread]
  rfl

theorem RunsTo.byteModified {i : Instr} {m : Ea} {s : State} {f : Ccr → Byte → Byte × Ccr} {g : Byte → Byte × Ccr}
    (h : RunsTo i (1 + m.size) s (modifyByte f m s)) (hg : ∀ v, f s.ccr v = g v) : ByteModified i (m.addr s) s g := by
  obtain ⟨hexec, hlen⟩ := h
  refine ⟨?_, byteStored_memWrite _ _ (memRead_mem _ _)⟩
  rw [hexec, pcAfter, hlen, modifyByte_eq, hg]

/-- The same with a mask byte before the address byte (R230 to R232). -/
theorem RunsTo.byteMasked {i : Instr} {m : Ea} {s : State} {f : Ccr → Byte → Byte → Byte × Ccr} {g : Byte → Byte × Ccr}
    {mask : Byte} (h : RunsTo i (1 + m.size + 1) s (maskByte f mask m s)) (hg : ∀ v, f s.ccr v mask = g v) :
    ByteModified i (m.addr s) s g := by
  obtain ⟨hexec, hlen⟩ := h
  refine ⟨?_, byteStored_memWrite _ _ (memRead_mem _ _)⟩
  rw [hexec, pcAfter, hlen, maskByte, modifyByte_eq, hg, State.advance, BitVec.ofNat_add (1 + m.size) 1, ← BitVec.add_assoc]

/-! ### Words in D and in the other registers -/

theorem d_eq_ofNat (s : State) : s.d = BitVec.ofNat 16 (256 * s.a.toNat + s.b.toNat) :=
  append_eq_ofNat s.a s.b

/-- D is written high byte to A, low byte to B (R21). -/
theorem setD_eq (s : State) (v : Word) :
    s.setD v = { s with a := BitVec.ofNat 8 (v.toNat / 256), b := BitVec.ofNat 8 v.toNat } := by
  have hhi : v.extractLsb' 8 8 = BitVec.ofNat 8 (v.toNat / 256) := highByte_eq_ofNat_div v
  have hlo : v.extractLsb' 0 8 = BitVec.ofNat 8 v.toNat := lowByte_eq_ofNat v
  rw [State.setD, hhi, hlo]

theorem load16_eq (r : Reg16) (src : Src16) (s : State) :
    load16 r src s =
      State.setReg16 { readsOf s (operand16 src s).2 with
        ccr := flags16 s.ccr (operand16 src s).1 false, pc := s.pc + BitVec.ofNat 16 src.length } r
        (operand16 src s).1 := by
  obtain ⟨t, p, n, hread⟩ := operand16_touches src s
  rw [load16, move16_eq_flags16, hread]
  cases r <;> rfl

theorem dOp16_eq (f : Ccr → Word → Word → Word × Ccr) (src : Src16) (s : State) :
    dOp16 f src s =
      State.setD { readsOf s (operand16 src s).2 with
        ccr := (f s.ccr s.d (operand16 src s).1).2, pc := s.pc + BitVec.ofNat 16 src.length }
        (f s.ccr s.d (operand16 src s).1).1 := by
  obtain ⟨t, p, n, hread⟩ := operand16_touches src s
  rw [dOp16, hread]
  rfl

theorem compareX_eq (src : Src16) (s : State) :
    compareX src s =
      { readsOf s (operand16 src s).2 with
        ccr := (diff16 s.ccr s.x (operand16 src s).1).2, pc := s.pc + BitVec.ofNat 16 src.length } := by
  obtain ⟨t, p, n, hread⟩ := operand16_touches src s
  rw [compareX, sub16_eq_diff16, hread]
  rfl

theorem store8_eq (r : Acc) (m : Ea) (s : State) :
    store8 r m s =
      { writesOf s (memWrite (m.addr s) (s.acc r) s) with
        ccr := flags8 s.ccr (s.acc r) false, pc := s.pc + BitVec.ofNat 16 (1 + m.size) } := by
  obtain ⟨mem, t, p, e, hwrite⟩ := memWrite_touches (m.addr s) (s.acc r) s
  rw [store8, move8_eq_flags8, hwrite]
  rfl

theorem store16_eq (r : Reg16) (m : Ea) (s : State) :
    store16 r m s =
      { writesOf s (memWrite16 (m.addr s) (s.reg16 r) s) with
        ccr := flags16 s.ccr (s.reg16 r) false, pc := s.pc + BitVec.ofNat 16 (1 + m.size) } := by
  obtain ⟨mem, t, p, e, hwrite⟩ := memWrite16_touches (m.addr s) (s.reg16 r) s
  rw [store16, move16_eq_flags16, hwrite]
  rfl

theorem clearByte_eq (m : Ea) (s : State) :
    clearByte m s =
      { writesOf s (memWrite (m.addr s) 0 s) with
        ccr := s.ccr.clear, pc := s.pc + BitVec.ofNat 16 (1 + m.size) } := by
  obtain ⟨mem, t, p, e, hwrite⟩ := memWrite_touches (m.addr s) 0 s
  rw [clearByte, hwrite]
  rfl

/-! ### The stack -/

theorem push8_eq_writesOf (v : Byte) (s : State) :
    push8 v s = { writesOf s (memWrite s.sp v s) with sp := s.sp - 1 } := by
  obtain ⟨mem, t, p, e, hwrite⟩ := memWrite_touches s.sp v s
  rw [push8_eq_memWrite, hwrite]
  rfl

/-- What a push of a word stores, as the rule writes it: the low byte at SP, then the high byte at SP - 1. -/
def pushedWord (v : Word) (s : State) : State :=
  memWrite (s.sp - 1) (BitVec.ofNat 8 (v.toNat / 256)) (memWrite s.sp (BitVec.ofNat 8 v.toNat) s)

theorem pushedWord_eq (v : Word) (s : State) :
    pushedWord v s = memWrite (s.sp - 1) (highByte v) (memWrite s.sp (lowByte v) s) := by
  rw [pushedWord, highByte_eq_ofNat_div, lowByte_eq_ofNat]

theorem wordStored_pushedWord (v : Word) (s : State) : WordStored (s.sp - 1) v s (pushedWord v s) := by
  rw [pushedWord_eq]
  exact wordStored_push s.sp v s

theorem push16_eq_writesOf (v : Word) (s : State) :
    push16 v s = { writesOf s (pushedWord v s) with sp := s.sp - 2 } := by
  have hdraws : (pushedWord v s).draws = s.draws := by simp [pushedWord]
  rw [push16_eq, ← pushedWord_eq, withBus_eq_writesOf { s with sp := s.sp - 2 } _ hdraws]
  rfl

theorem pullAcc_eq (r : Acc) (s : State) :
    pullAcc r s =
      State.setAcc { readsOf s (memRead (s.sp + 1) s).2 with sp := s.sp + 1, pc := s.pc + 1 } r
        (memRead (s.sp + 1) s).1 := by
  obtain ⟨t, p, n, hread⟩ := memRead_touches (s.sp + 1) s
  rw [pullAcc, pull8_eq_memRead, hread]
  cases r <;> rfl

theorem pull16_eq_readsOf (s : State) :
    pull16 s =
      ((memRead16 (s.sp + 1) s).1, { readsOf s (memRead16 (s.sp + 1) s).2 with sp := s.sp + 2 }) := by
  obtain ⟨t, p, n, hread⟩ := memRead16_touches (s.sp + 1) s
  rw [pull16_eq_memRead16, hread]
  rfl

end Sys2Proof.Proofs
end

section
/-! PROOFS. Each instruction that has several forms is one shape, over every form of its operand: the arms of `exec` and the
lengths of the encodings, read off form by form. -/

namespace Sys2Proof.Proofs

open Sys2Proof Sys2Proof.Machine Sys2Proof.Claims

theorem RunsTo.exec_eq {i : Instr} {n : Nat} {s t : State} (h : RunsTo i n s t) : exec i s = .next t := h.1

theorem RunsTo.pcAfter_eq {i : Instr} {n : Nat} {s t : State} (h : RunsTo i n s t) :
    pcAfter i s = s.pc + BitVec.ofNat 16 n := by
  rw [pcAfter, h.2]

/-! ### An accumulator and a byte operand -/

theorem runsTo_adda (src : Src8) (s : State) :
    RunsTo (formAdda src) src.length s (accOp8 (fun cc a m => add8 cc a m false) .a src s) := by
  rcases src with _ | _ | _ | _ <;> exact ⟨rfl, rfl⟩

theorem runsTo_addb (src : Src8) (s : State) :
    RunsTo (formAddb src) src.length s (accOp8 (fun cc a m => add8 cc a m false) .b src s) := by
  rcases src with _ | _ | _ | _ <;> exact ⟨rfl, rfl⟩

theorem runsTo_adca (src : Src8) (s : State) :
    RunsTo (formAdca src) src.length s (accOp8 (fun cc a m => add8 cc a m cc.c) .a src s) := by
  rcases src with _ | _ | _ | _ <;> exact ⟨rfl, rfl⟩

theorem runsTo_adcb (src : Src8) (s : State) :
    RunsTo (formAdcb src) src.length s (accOp8 (fun cc a m => add8 cc a m cc.c) .b src s) := by
  rcases src with _ | _ | _ | _ <;> exact ⟨rfl, rfl⟩

theorem runsTo_suba (src : Src8) (s : State) :
    RunsTo (formSuba src) src.length s (accOp8 (fun cc a m => sub8 cc a m false) .a src s) := by
  rcases src with _ | _ | _ | _ <;> exact ⟨rfl, rfl⟩

theorem runsTo_subb (src : Src8) (s : State) :
    RunsTo (formSubb src) src.length s (accOp8 (fun cc a m => sub8 cc a m false) .b src s) := by
  rcases src with _ | _ | _ | _ <;> exact ⟨rfl, rfl⟩

theorem runsTo_sbca (src : Src8) (s : State) :
    RunsTo (formSbca src) src.length s (accOp8 (fun cc a m => sub8 cc a m cc.c) .a src s) := by
  rcases src with _ | _ | _ | _ <;> exact ⟨rfl, rfl⟩

theorem runsTo_sbcb (src : Src8) (s : State) :
    RunsTo (formSbcb src) src.length s (accOp8 (fun cc a m => sub8 cc a m cc.c) .b src s) := by
  rcases src with _ | _ | _ | _ <;> exact ⟨rfl, rfl⟩

theorem runsTo_anda (src : Src8) (s : State) :
    RunsTo (formAnda src) src.length s (accOp8 and8 .a src s) := by
  rcases src with _ | _ | _ | _ <;> exact ⟨rfl, rfl⟩

theorem runsTo_andb (src : Src8) (s : State) :
    RunsTo (formAndb src) src.length s (accOp8 and8 .b src s) := by
  rcases src with _ | _ | _ | _ <;> exact ⟨rfl, rfl⟩

theorem runsTo_oraa (src : Src8) (s : State) :
    RunsTo (formOraa src) src.length s (accOp8 or8 .a src s) := by
  rcases src with _ | _ | _ | _ <;> exact ⟨rfl, rfl⟩

theorem runsTo_orab (src : Src8) (s : State) :
    RunsTo (formOrab src) src.length s (accOp8 or8 .b src s) := by
  rcases src with _ | _ | _ | _ <;> exact ⟨rfl, rfl⟩

theorem runsTo_eora (src : Src8) (s : State) :
    RunsTo (formEora src) src.length s (accOp8 eor8 .a src s) := by
  rcases src with _ | _ | _ | _ <;> exact ⟨rfl, rfl⟩

theorem runsTo_eorb (src : Src8) (s : State) :
    RunsTo (formEorb src) src.length s (accOp8 eor8 .b src s) := by
  rcases src with _ | _ | _ | _ <;> exact ⟨rfl, rfl⟩

theorem runsTo_ldaa (src : Src8) (s : State) :
    RunsTo (formLdaa src) src.length s (accOp8 (fun cc _ m => (m, cc.move8 m)) .a src s) := by
  rcases src with _ | _ | _ | _ <;> exact ⟨rfl, rfl⟩

theorem runsTo_ldab (src : Src8) (s : State) :
    RunsTo (formLdab src) src.length s (accOp8 (fun cc _ m => (m, cc.move8 m)) .b src s) := by
  rcases src with _ | _ | _ | _ <;> exact ⟨rfl, rfl⟩

/-! ### A byte operand that only sets flags -/

theorem runsTo_cmpa (src : Src8) (s : State) :
    RunsTo (formCmpa src) src.length s (accTest8 (fun cc a m => sub8 cc a m false) .a src s) := by
  rcases src with _ | _ | _ | _ <;> exact ⟨rfl, rfl⟩

theorem runsTo_cmpb (src : Src8) (s : State) :
    RunsTo (formCmpb src) src.length s (accTest8 (fun cc a m => sub8 cc a m false) .b src s) := by
  rcases src with _ | _ | _ | _ <;> exact ⟨rfl, rfl⟩

theorem runsTo_bita (src : Src8) (s : State) :
    RunsTo (formBita src) src.length s (accTest8 and8 .a src s) := by
  rcases src with _ | _ | _ | _ <;> exact ⟨rfl, rfl⟩

theorem runsTo_bitb (src : Src8) (s : State) :
    RunsTo (formBitb src) src.length s (accTest8 and8 .b src s) := by
  rcases src with _ | _ | _ | _ <;> exact ⟨rfl, rfl⟩

theorem runsTo_tst (m : EaIX) (s : State) :
    RunsTo (formTst m) (Src8.mem m.toEa).length s (accTest8 (fun cc _ v => (v, cc.test v)) .a (.mem m.toEa) s) := by
  cases m <;> exact ⟨rfl, rfl⟩

theorem runsTo_tim (mask : Byte) (k : EaDX) (s : State) :
    RunsTo (formTim mask k) (2 + k.toEa.size) s (testMask mask k.toEa s) := by
  cases k <;> exact ⟨rfl, rfl⟩

/-! ### A word operand -/

theorem runsTo_addd (src : Src16) (s : State) :
    RunsTo (formAddd src) src.length s (dOp16 add16 src s) := by
  rcases src with _ | _ | _ | _ <;> exact ⟨rfl, rfl⟩

theorem runsTo_subd (src : Src16) (s : State) :
    RunsTo (formSubd src) src.length s (dOp16 sub16 src s) := by
  rcases src with _ | _ | _ | _ <;> exact ⟨rfl, rfl⟩

theorem runsTo_cpx (src : Src16) (s : State) :
    RunsTo (formCpx src) src.length s (compareX src s) := by
  rcases src with _ | _ | _ | _ <;> exact ⟨rfl, rfl⟩

theorem runsTo_ldd (src : Src16) (s : State) :
    RunsTo (formLdd src) src.length s (load16 .d src s) := by
  rcases src with _ | _ | _ | _ <;> exact ⟨rfl, rfl⟩

theorem runsTo_ldx (src : Src16) (s : State) :
    RunsTo (formLdx src) src.length s (load16 .x src s) := by
  rcases src with _ | _ | _ | _ <;> exact ⟨rfl, rfl⟩

theorem runsTo_lds (src : Src16) (s : State) :
    RunsTo (formLds src) src.length s (load16 .sp src s) := by
  rcases src with _ | _ | _ | _ <;> exact ⟨rfl, rfl⟩

/-! ### Stores and clears -/

theorem runsTo_staa (m : Ea) (s : State) :
    RunsTo (formStaa m) (1 + m.size) s (store8 .a m s) := by
  cases m <;> exact ⟨rfl, rfl⟩

theorem runsTo_stab (m : Ea) (s : State) :
    RunsTo (formStab m) (1 + m.size) s (store8 .b m s) := by
  cases m <;> exact ⟨rfl, rfl⟩

theorem runsTo_std (m : Ea) (s : State) :
    RunsTo (formStd m) (1 + m.size) s (store16 .d m s) := by
  cases m <;> exact ⟨rfl, rfl⟩

theorem runsTo_stx (m : Ea) (s : State) :
    RunsTo (formStx m) (1 + m.size) s (store16 .x m s) := by
  cases m <;> exact ⟨rfl, rfl⟩

theorem runsTo_sts (m : Ea) (s : State) :
    RunsTo (formSts m) (1 + m.size) s (store16 .sp m s) := by
  cases m <;> exact ⟨rfl, rfl⟩

theorem runsTo_clr (m : EaIX) (s : State) :
    RunsTo (formClr m) (1 + m.toEa.size) s (clearByte m.toEa s) := by
  cases m <;> exact ⟨rfl, rfl⟩

/-! ### A byte of memory modified -/

theorem runsTo_neg (m : EaIX) (s : State) :
    RunsTo (formNeg m) (1 + m.toEa.size) s (modifyByte neg8 m.toEa s) := by
  cases m <;> exact ⟨rfl, rfl⟩

theorem runsTo_inc (m : EaIX) (s : State) :
    RunsTo (formInc m) (1 + m.toEa.size) s (modifyByte inc8 m.toEa s) := by
  cases m <;> exact ⟨rfl, rfl⟩

theorem runsTo_dec (m : EaIX) (s : State) :
    RunsTo (formDec m) (1 + m.toEa.size) s (modifyByte dec8 m.toEa s) := by
  cases m <;> exact ⟨rfl, rfl⟩

theorem runsTo_com (m : EaIX) (s : State) :
    RunsTo (formCom m) (1 + m.toEa.size) s (modifyByte com8 m.toEa s) := by
  cases m <;> exact ⟨rfl, rfl⟩

theorem runsTo_asl (m : EaIX) (s : State) :
    RunsTo (formAsl m) (1 + m.toEa.size) s (modifyByte asl8 m.toEa s) := by
  cases m <;> exact ⟨rfl, rfl⟩

theorem runsTo_asr (m : EaIX) (s : State) :
    RunsTo (formAsr m) (1 + m.toEa.size) s (modifyByte asr8 m.toEa s) := by
  cases m <;> exact ⟨rfl, rfl⟩

theorem runsTo_lsr (m : EaIX) (s : State) :
    RunsTo (formLsr m) (1 + m.toEa.size) s (modifyByte lsr8 m.toEa s) := by
  cases m <;> exact ⟨rfl, rfl⟩

theorem runsTo_rol (m : EaIX) (s : State) :
    RunsTo (formRol m) (1 + m.toEa.size) s (modifyByte rol8 m.toEa s) := by
  cases m <;> exact ⟨rfl, rfl⟩

theorem runsTo_ror (m : EaIX) (s : State) :
    RunsTo (formRor m) (1 + m.toEa.size) s (modifyByte ror8 m.toEa s) := by
  cases m <;> exact ⟨rfl, rfl⟩

theorem runsTo_aim (mask : Byte) (k : EaDX) (s : State) :
    RunsTo (formAim mask k) (1 + k.toEa.size + 1) s (maskByte and8 mask k.toEa s) := by
  cases k <;> exact ⟨rfl, rfl⟩

theorem runsTo_oim (mask : Byte) (k : EaDX) (s : State) :
    RunsTo (formOim mask k) (1 + k.toEa.size + 1) s (maskByte or8 mask k.toEa s) := by
  cases k <;> exact ⟨rfl, rfl⟩

theorem runsTo_eim (mask : Byte) (k : EaDX) (s : State) :
    RunsTo (formEim mask k) (1 + k.toEa.size + 1) s (maskByte eor8 mask k.toEa s) := by
  cases k <;> exact ⟨rfl, rfl⟩

/-! ### Jumps and calls -/

theorem runsTo_jmp (j : EaIX) (s : State) :
    RunsTo (formJmp j) (1 + j.toEa.size) s (s.jump (j.toEa.addr s)) := by
  cases j <;> exact ⟨rfl, rfl⟩

theorem runsTo_jsr (m : Ea) (s : State) :
    RunsTo (formJsr m) (1 + m.size) s (callSubroutine (1 + m.size) (m.addr s) s) := by
  cases m <;> exact ⟨rfl, rfl⟩

end Sys2Proof.Proofs
end

section
/-! PROOFS. Loads, stores, transfers, the stack, arithmetic, logic, shifts and the modified bytes, in every form: O12, O13,
O14, O15, O16, O18, O19, O20, O21, O24, O25, O26, O27, O28. -/

namespace Sys2Proof.Proofs

open Sys2Proof Sys2Proof.Machine Sys2Proof.Claims

/-! ### Loads, stores, transfers, the stack -/

/-- Settles O12: a byte load is an operation that takes the operand; a word load writes D, X or SP. -/
theorem loads : Obligations.Loads := by
  intro src wide s m
  refine ⟨(runsTo_ldaa src s).accFromOperand fun v => by rw [move8_eq_flags8],
    (runsTo_ldab src s).accFromOperand fun v => by rw [move8_eq_flags8], ?_, ?_, ?_⟩
  · rw [(runsTo_ldd wide s).exec_eq, (runsTo_ldd wide s).pcAfter_eq, load16_eq]
    exact congrArg Host.Outcome.next (setD_eq _ _)
  · rw [(runsTo_ldx wide s).exec_eq, (runsTo_ldx wide s).pcAfter_eq, load16_eq]
    rfl
  · rw [(runsTo_lds wide s).exec_eq, (runsTo_lds wide s).pcAfter_eq, load16_eq]
    rfl

/-- Settles O13: the next state of a store, and what a byte or a word write stores. -/
theorem stores : Obligations.Stores := by
  intro m s addr d
  have hd : d = s.reg16 .d := (d_eq_ofNat s).symm
  refine ⟨?_, byteStored_memWrite _ _ rfl, ?_, byteStored_memWrite _ _ rfl, ?_, wordStored_memWrite16 _ _ s, ?_,
    wordStored_memWrite16 _ _ s, ?_, wordStored_memWrite16 _ _ s⟩
  · rw [(runsTo_staa m s).exec_eq, (runsTo_staa m s).pcAfter_eq, store8_eq]
    rfl
  · rw [(runsTo_stab m s).exec_eq, (runsTo_stab m s).pcAfter_eq, store8_eq]
    rfl
  · rw [(runsTo_std m s).exec_eq, (runsTo_std m s).pcAfter_eq, store16_eq, hd]
  · rw [(runsTo_stx m s).exec_eq, (runsTo_stx m s).pcAfter_eq, store16_eq]
    rfl
  · rw [(runsTo_sts m s).exec_eq, (runsTo_sts m s).pcAfter_eq, store16_eq]
    rfl

/-- Settles O14: the moved byte's flags, and D as two bytes. -/
theorem transfers : Obligations.Transfers := by
  intro s
  refine ⟨?_, ?_, rfl, rfl, ?_⟩
  · rw [← move8_eq_flags8]
    rfl
  · rw [← move8_eq_flags8]
    rfl
  · have hexec : exec .xgdx s = .next (({ s with x := s.d, pc := s.pc + 1 } : State).setD s.x) := rfl
    rw [hexec, setD_eq, d_eq_ofNat]

/-- Settles O15: a push is a write and a move of SP, a pull a move of SP and a read. -/
theorem pushesAndPulls : Obligations.PushesAndPulls := by
  intro s ta tb tx m w
  have hpsha : exec .psha s = .next ((push8 s.a s).advance 1) := rfl
  have hpshb : exec .pshb s = .next ((push8 s.b s).advance 1) := rfl
  have hpshx : exec .pshx s = .next ((push16 s.x s).advance 1) := rfl
  have hpula : exec .pula s = .next (pullAcc .a s) := rfl
  have hpulb : exec .pulb s = .next (pullAcc .b s) := rfl
  have hpulx : exec .pulx s = .next (((pull16 s).2.setReg16 .x (pull16 s).1).advance 1) := rfl
  refine ⟨?_, byteStored_memWrite _ _ rfl, ?_, byteStored_memWrite _ _ rfl, ?_, wordStored_pushedWord s.x s, ?_, ?_, ?_⟩
  · rw [hpsha, push8_eq_writesOf]
    rfl
  · rw [hpshb, push8_eq_writesOf]
    rfl
  · rw [hpshx, push16_eq_writesOf]
    rfl
  · rw [hpula, pullAcc_eq]
    rfl
  · rw [hpulb, pullAcc_eq]
    rfl
  · rw [hpulx, pull16_eq_readsOf]
    rfl

/-- Settles O16: a clear writes $00 and reads nothing. -/
theorem clears : Obligations.Clears := by
  intro m s cleared
  refine ⟨rfl, rfl, ?_, byteStored_memWrite _ _ rfl⟩
  rw [(runsTo_clr m s).exec_eq, (runsTo_clr m s).pcAfter_eq, clearByte_eq]
  rfl

/-! ### Arithmetic -/

/-- Settles O18: the shared shape with the flag function of addition. -/
theorem addBytes : Obligations.AddBytes := fun src s =>
  ⟨(runsTo_adda src s).accFromOperand fun m => add8_eq_sum8 s.ccr s.a m false,
    (runsTo_addb src s).accFromOperand fun m => add8_eq_sum8 s.ccr s.b m false,
    (runsTo_adca src s).accFromOperand fun m => add8_eq_sum8 s.ccr s.a m s.ccr.c,
    (runsTo_adcb src s).accFromOperand fun m => add8_eq_sum8 s.ccr s.b m s.ccr.c,
    RunsTo.accFromAcc (f := fun cc a => add8 cc a s.b false) ⟨rfl, rfl⟩ (add8_eq_sum8 s.ccr s.a s.b false)⟩

/-- Settles O19: the shared shapes with the flag function of subtraction; a compare keeps its flags alone. -/
theorem subtractAndCompareBytes : Obligations.SubtractAndCompareBytes := fun src s =>
  ⟨(runsTo_suba src s).accFromOperand fun m => sub8_eq_diff8 s.ccr s.a m false,
    (runsTo_subb src s).accFromOperand fun m => sub8_eq_diff8 s.ccr s.b m false,
    (runsTo_sbca src s).accFromOperand fun m => sub8_eq_diff8 s.ccr s.a m s.ccr.c,
    (runsTo_sbcb src s).accFromOperand fun m => sub8_eq_diff8 s.ccr s.b m s.ccr.c,
    RunsTo.accFromAcc (f := fun cc a => sub8 cc a s.b false) ⟨rfl, rfl⟩ (sub8_eq_diff8 s.ccr s.a s.b false),
    (runsTo_cmpa src s).flagsFromOperand fun m => congrArg Prod.snd (sub8_eq_diff8 s.ccr s.a m false),
    (runsTo_cmpb src s).flagsFromOperand fun m => congrArg Prod.snd (sub8_eq_diff8 s.ccr s.b m false), by
      rw [← sub8_eq_diff8]
      rfl⟩

/-- Settles O20: the shape of an operation on D, and the compare of X. -/
theorem wordArithmetic : Obligations.WordArithmetic := by
  intro src s m d
  have hd : d = s.d := (d_eq_ofNat s).symm
  refine ⟨?_, ?_, ?_⟩
  · rw [(runsTo_addd src s).exec_eq, (runsTo_addd src s).pcAfter_eq, dOp16_eq, add16_eq_sum16, setD_eq, hd]
  · rw [(runsTo_subd src s).exec_eq, (runsTo_subd src s).pcAfter_eq, dOp16_eq, sub16_eq_diff16, setD_eq, hd]
  · rw [(runsTo_cpx src s).exec_eq, (runsTo_cpx src s).pcAfter_eq, compareX_eq]

/-- A product of two bytes fits a word. -/
theorem toNat_mul_lt (a b : Byte) : a.toNat * b.toNat < 65536 :=
  Nat.mul_lt_mul'' (c := 256) (d := 256) a.isLt b.isLt

theorem mul8_eq (cc : Ccr) (a b : Byte) :
    mul8 cc a b =
      (BitVec.ofNat 16 (a.toNat * b.toNat), { cc with c := decide (128 ≤ a.toNat * b.toNat % 256) }) := by
  have hc : (BitVec.ofNat 16 (a.toNat * b.toNat)).getLsbD 7 = decide (128 ≤ a.toNat * b.toNat % 256) := by
    rw [Bool.eq_iff_iff, getLsbD_iff_div_mod, decide_eq_true_iff, BitVec.toNat_ofNat, Nat.mod_eq_of_lt (toNat_mul_lt a b)]
    omega
  rw [mul8, hc]

/-- Settles O21: Z from the word reached, and the product as a word in D. -/
theorem indexArithmeticAndMul : Obligations.IndexArithmeticAndMul := by
  intro s
  refine ⟨?_, ?_, ?_, rfl, rfl, highByte (mul8 s.ccr s.a s.b).1, lowByte (mul8 s.ccr s.a s.b).1, ?_, ?_⟩
  · have hx : s.x + s.b.zeroExtend 16 = BitVec.ofNat 16 (s.x.toNat + s.b.toNat) := by
      apply BitVec.eq_of_toNat_eq
      rw [BitVec.toNat_add, BitVec.zeroExtend_eq_setWidth, BitVec.toNat_setWidth_of_le (by decide), BitVec.toNat_ofNat]
    rw [← hx]
    rfl
  · have hz : decide (s.x + 1 = 0) = decide (s.x.toNat = 65535) := by
      rw [decide_eq_decide]
      bv_omega
    rw [← hz]
    rfl
  · have hz : decide (s.x - 1 = 0) = decide (s.x.toNat = 1) := by
      rw [decide_eq_decide]
      bv_omega
    rw [← hz]
    rfl
  · rw [highByte_toNat, lowByte_toNat, mul8_eq, BitVec.toNat_ofNat, Nat.mod_eq_of_lt (toNat_mul_lt s.a s.b)]
    omega
  · have hexec : exec .mul s = .next (((s.setD (mul8 s.ccr s.a s.b).1).setCcr (mul8 s.ccr s.a s.b).2).advance 1) := rfl
    rw [hexec, mul8_eq]
    rfl

/-- Settles O24: each operation of one accumulator with its law. -/
theorem accumulatorUnary : Obligations.AccumulatorUnary := fun s =>
  ⟨RunsTo.accFromAcc (f := neg8) ⟨rfl, rfl⟩ (neg8_eq_negated _ _),
    RunsTo.accFromAcc (f := neg8) ⟨rfl, rfl⟩ (neg8_eq_negated _ _),
    RunsTo.accFromAcc (f := inc8) ⟨rfl, rfl⟩ (inc8_eq_incremented _ _),
    RunsTo.accFromAcc (f := inc8) ⟨rfl, rfl⟩ (inc8_eq_incremented _ _),
    RunsTo.accFromAcc (f := dec8) ⟨rfl, rfl⟩ (dec8_eq_decremented _ _),
    RunsTo.accFromAcc (f := dec8) ⟨rfl, rfl⟩ (dec8_eq_decremented _ _),
    RunsTo.accFromAcc (f := com8) ⟨rfl, rfl⟩ (com8_eq_complemented _ _),
    RunsTo.accFromAcc (f := com8) ⟨rfl, rfl⟩ (com8_eq_complemented _ _),
    RunsTo.accFromAcc (f := fun cc a => (a, cc.test a)) ⟨rfl, rfl⟩ (congrArg (s.a, ·) (test_eq_flags8 s.ccr s.a)),
    RunsTo.accFromAcc (f := fun cc b => (b, cc.test b)) ⟨rfl, rfl⟩ (congrArg (s.b, ·) (test_eq_flags8 s.ccr s.b))⟩

/-! ### Logic, shifts, bits -/

theorem and8_eq (cc : Ccr) (a m : Byte) : and8 cc a m = (a &&& m, flags8 cc (a &&& m) false) := by
  rw [and8, move8_eq_flags8]

theorem or8_eq (cc : Ccr) (a m : Byte) : or8 cc a m = (a ||| m, flags8 cc (a ||| m) false) := by
  rw [or8, move8_eq_flags8]

theorem eor8_eq (cc : Ccr) (a m : Byte) : eor8 cc a m = (a ^^^ m, flags8 cc (a ^^^ m) false) := by
  rw [eor8, move8_eq_flags8]

/-- Settles O25: the shared shape with the three logic operations. -/
theorem logicBytes : Obligations.LogicBytes := fun src s =>
  ⟨(runsTo_anda src s).accFromOperand (and8_eq s.ccr s.a), (runsTo_andb src s).accFromOperand (and8_eq s.ccr s.b),
    (runsTo_oraa src s).accFromOperand (or8_eq s.ccr s.a), (runsTo_orab src s).accFromOperand (or8_eq s.ccr s.b),
    (runsTo_eora src s).accFromOperand (eor8_eq s.ccr s.a), (runsTo_eorb src s).accFromOperand (eor8_eq s.ccr s.b)⟩

/-- Settles O26: the shapes that keep the flags of an operation alone. -/
theorem bitTests : Obligations.BitTests := by
  intro src m k mask s
  refine ⟨(runsTo_bita src s).flagsFromOperand fun v => congrArg Prod.snd (and8_eq s.ccr s.a v),
    (runsTo_bitb src s).flagsFromOperand fun v => congrArg Prod.snd (and8_eq s.ccr s.b v), ?_,
    (runsTo_tst m s).flagsFromOperand (test_eq_flags8 s.ccr)⟩
  rw [FlagsFromOperand, (runsTo_tim mask k s).exec_eq, (runsTo_tim mask k s).pcAfter_eq, testMask_eq, and8_eq]

/-! D as a number, for its two shifts. -/

theorem d_toNat (s : State) : s.d.toNat = 256 * s.a.toNat + s.b.toNat :=
  toNat_append_byte s.a s.b

theorem setD_ofNat (s : State) (n : Nat) :
    s.setD (BitVec.ofNat 16 n) = { s with a := BitVec.ofNat 8 (n / 256), b := BitVec.ofNat 8 n } := by
  have hhi : BitVec.ofNat 8 ((BitVec.ofNat 16 n).toNat / 256) = BitVec.ofNat 8 (n / 256) := by
    apply BitVec.eq_of_toNat_eq
    rw [BitVec.toNat_ofNat, BitVec.toNat_ofNat, BitVec.toNat_ofNat]
    omega
  have hlo : BitVec.ofNat 8 (BitVec.ofNat 16 n).toNat = BitVec.ofNat 8 n := by
    apply BitVec.eq_of_toNat_eq
    rw [BitVec.toNat_ofNat, BitVec.toNat_ofNat, BitVec.toNat_ofNat]
    omega
  rw [setD_eq, hhi, hlo]

theorem asl16_eq (cc : Ccr) (v : Word) :
    asl16 cc v =
      (BitVec.ofNat 16 (2 * v.toNat),
        { flags16 cc (BitVec.ofNat 16 (2 * v.toNat))
            (xor (decide (32768 ≤ 2 * v.toNat % 65536)) (decide (32768 ≤ v.toNat))) with
          c := decide (32768 ≤ v.toNat) }) := by
  have hres : (v.extractLsb' 0 15 ++ 0b0#1 : Word) = BitVec.ofNat 16 (2 * v.toNat) := by
    apply BitVec.eq_of_toNat_eq
    rw [toNat_append_eq_add, BitVec.extractLsb'_toNat, BitVec.toNat_ofNat, BitVec.toNat_ofNat]
    omega
  have hout : v.getLsbD 15 = decide (32768 ≤ v.toNat) := BitVec.getLsbD_last v
  have hn : (BitVec.ofNat 16 (2 * v.toNat)).getLsbD 15 = decide (32768 ≤ 2 * v.toNat % 65536) :=
    BitVec.getLsbD_last (BitVec.ofNat 16 (2 * v.toNat))
  rw [asl16, hres, hout, Ccr.shift16, hn, nz16_eq]
  rfl

theorem lsr16_eq (cc : Ccr) (v : Word) :
    lsr16 cc v =
      (BitVec.ofNat 16 (v.toNat / 2),
        { cc with
          n := false, z := decide (v.toNat / 2 = 0), v := decide (v.toNat % 2 = 1), c := decide (v.toNat % 2 = 1) }) := by
  have hlt : v.toNat < 65536 := v.isLt
  have hres : (0b0#1 ++ v.extractLsb' 1 15 : Word) = BitVec.ofNat 16 (v.toNat / 2) := by
    apply BitVec.eq_of_toNat_eq
    rw [toNat_append_eq_add, BitVec.extractLsb'_toNat, BitVec.toNat_ofNat, BitVec.toNat_ofNat, Nat.shiftRight_eq_div_pow]
    omega
  have hhalf : (BitVec.ofNat 16 (v.toNat / 2)).toNat = v.toNat / 2 := by
    rw [BitVec.toNat_ofNat]
    omega
  have hn : (BitVec.ofNat 16 (v.toNat / 2)).getLsbD 15 = false := by
    have hsmall : ¬ 32768 ≤ (BitVec.ofNat 16 (v.toNat / 2)).toNat := by omega
    exact (BitVec.getLsbD_last _).trans (decide_eq_false hsmall)
  have hnz : decide (32768 ≤ v.toNat / 2) = false := decide_eq_false (by omega)
  rw [lsr16, hres, getLsbD_zero, Ccr.shift16, hn, nz16_eq, hhalf, hnz, Bool.false_xor]

/-- Settles O27: each shift of an accumulator with its law; the shifts of D by its number. -/
theorem registerShifts : Obligations.RegisterShifts := by
  intro s
  refine ⟨RunsTo.accFromAcc (f := asl8) ⟨rfl, rfl⟩ (asl8_eq_shiftLeft _ _),
    RunsTo.accFromAcc (f := asl8) ⟨rfl, rfl⟩ (asl8_eq_shiftLeft _ _),
    RunsTo.accFromAcc (f := asr8) ⟨rfl, rfl⟩ (asr8_eq_shiftRightSigned _ _),
    RunsTo.accFromAcc (f := asr8) ⟨rfl, rfl⟩ (asr8_eq_shiftRightSigned _ _),
    RunsTo.accFromAcc (f := lsr8) ⟨rfl, rfl⟩ (lsr8_eq_shiftRight _ _),
    RunsTo.accFromAcc (f := lsr8) ⟨rfl, rfl⟩ (lsr8_eq_shiftRight _ _),
    RunsTo.accFromAcc (f := rol8) ⟨rfl, rfl⟩ (rol8_eq_rotateLeft _ _),
    RunsTo.accFromAcc (f := rol8) ⟨rfl, rfl⟩ (rol8_eq_rotateLeft _ _),
    RunsTo.accFromAcc (f := ror8) ⟨rfl, rfl⟩ (ror8_eq_rotateRight _ _),
    RunsTo.accFromAcc (f := ror8) ⟨rfl, rfl⟩ (ror8_eq_rotateRight _ _), ?_⟩
  intro d
  have hd : s.d.toNat = d := d_toNat s
  have hasld : exec .asld s = .next (((s.setD (asl16 s.ccr s.d).1).setCcr (asl16 s.ccr s.d).2).advance 1) := rfl
  have hlsrd : exec .lsrd s = .next (((s.setD (lsr16 s.ccr s.d).1).setCcr (lsr16 s.ccr s.d).2).advance 1) := rfl
  refine ⟨?_, ?_⟩
  · rw [hasld, asl16_eq, hd, setD_ofNat]
    rfl
  · rw [hlsrd, lsr16_eq, hd, setD_ofNat]
    rfl

/-- Settles O28: one read and one write at the effective address, with the law of each operation. -/
theorem readModifyWrite : Obligations.ReadModifyWrite := fun m k mask s =>
  ⟨(runsTo_neg m s).byteModified (neg8_eq_negated s.ccr), (runsTo_inc m s).byteModified (inc8_eq_incremented s.ccr),
    (runsTo_dec m s).byteModified (dec8_eq_decremented s.ccr), (runsTo_com m s).byteModified (com8_eq_complemented s.ccr),
    (runsTo_asl m s).byteModified (asl8_eq_shiftLeft s.ccr), (runsTo_asr m s).byteModified (asr8_eq_shiftRightSigned s.ccr),
    (runsTo_lsr m s).byteModified (lsr8_eq_shiftRight s.ccr), (runsTo_rol m s).byteModified (rol8_eq_rotateLeft s.ccr),
    (runsTo_ror m s).byteModified (ror8_eq_rotateRight s.ccr),
    (runsTo_aim mask k s).byteMasked fun v => and8_eq s.ccr v mask,
    (runsTo_oim mask k s).byteMasked fun v => or8_eq s.ccr v mask,
    (runsTo_eim mask k s).byteMasked fun v => eor8_eq s.ccr v mask⟩

end Sys2Proof.Proofs
end

section
/-! PROOFS. Decimal adjustment, branches, jumps and calls (41_arithmetic.md R171, 43_control_transfer.md): O22, O23, O29, O30,
O31, O32. -/

namespace Sys2Proof.Proofs

open Sys2Proof Sys2Proof.Machine Sys2Proof.Claims

/-! ### Decimal adjustment -/

/-- What DAA adds for the low digit, and for the high one (R171). -/
def daaLow (h : Bool) (a : Byte) : Nat :=
  if 9 < a.toNat % 16 ∨ h = true then 6 else 0

def daaHigh (c : Bool) (a : Byte) : Nat :=
  if (8 < a.toNat / 16 ∧ 9 < a.toNat % 16) ∨ 9 < a.toNat / 16 ∨ c = true then 96 else 0

/-- The two corrections have no bit in common, so their union is their sum. -/
theorem daaCorrection_toNat (cc : Ccr) (a : Byte) : (daaCorrection cc a).toNat = daaLow cc.h a + daaHigh cc.c a := by
  simp only [daaCorrection, daaLow, daaHigh, gt_iff_lt, Bool.or_eq_true, Bool.and_eq_true, decide_eq_true_eq, or_assoc]
  split_ifs <;> rfl

theorem exec_daa (s : State) :
    exec .daa s = .next { s with
      a := BitVec.ofNat 8 (s.a.toNat + daaLow s.ccr.h s.a + daaHigh s.ccr.c s.a)
      ccr :=
        { flags8 s.ccr (BitVec.ofNat 8 (s.a.toNat + daaLow s.ccr.h s.a + daaHigh s.ccr.c s.a)) (Config.freeBit s.draws) with
          c := s.ccr.c || decide (255 < s.a.toNat + daaLow s.ccr.h s.a + daaHigh s.ccr.c s.a) }
      pc := s.pc + 1
      draws := s.draws + 1 } := by
  have hexec : exec .daa s = .next (decimalAdjust s) := rfl
  rw [hexec, decimalAdjust, daa, daaCorrection_toNat, nz8_eq, ← Nat.add_assoc]
  rfl

/-- Settles O22: the next state of DAA with the two corrections named. -/
theorem decimalAdjust : Obligations.DecimalAdjust := exec_daa

/-! A sum of two numbers of two decimal digits and a carry, added as bytes of digits: `digits x` is such a byte. -/

/-- The number whose hexadecimal digits are the decimal digits of `x`. -/
def digits (x : Nat) : Nat :=
  16 * (x / 10) + x % 10

theorem daaLow_of_digits {x y k : Nat} (hk : k ≤ 1) {v : Byte} (hv : v.toNat = (digits x + digits y + k) % 256) :
    daaLow (decide (15 < x % 10 + y % 10 + k)) v = if 9 < x % 10 + y % 10 + k then 6 else 0 := by
  have hlow : v.toNat % 16 = (x % 10 + y % 10 + k) % 16 := by
    rw [hv, digits, digits]
    omega
  have hiff : (9 < v.toNat % 16 ∨ decide (15 < x % 10 + y % 10 + k) = true) ↔ 9 < x % 10 + y % 10 + k := by
    rw [hlow, decide_eq_true_iff]
    omega
  rw [daaLow, if_congr hiff rfl rfl]

theorem daaHigh_of_digits {x y k : Nat} (hx : x < 100) (hy : y < 100) (hk : k ≤ 1) {v : Byte}
    (hv : v.toNat = (digits x + digits y + k) % 256) :
    daaHigh (decide (255 < digits x + digits y + k)) v = if 99 < x + y + k then 96 else 0 := by
  have hiff : ((8 < v.toNat / 16 ∧ 9 < v.toNat % 16) ∨ 9 < v.toNat / 16 ∨
      decide (255 < digits x + digits y + k) = true) ↔ 99 < x + y + k := by
    have hsum : x + y + k = 10 * (x / 10 + y / 10) + (x % 10 + y % 10 + k) := by omega
    have hbytes : digits x + digits y + k = 16 * (x / 10 + y / 10) + (x % 10 + y % 10 + k) := by
      rw [digits, digits]
      omega
    have htens : x / 10 + y / 10 ≤ 18 := by omega
    have hunits : x % 10 + y % 10 + k ≤ 19 := by omega
    rw [hv, decide_eq_true_iff, hsum, hbytes]
    generalize x / 10 + y / 10 = tens at htens
    generalize x % 10 + y % 10 + k = units at hunits
    omega
  rw [daaHigh, if_congr hiff rfl rfl]

/-- With the two corrections the sum has the decimal digits of the numbers' sum, and passes 255 exactly above 99. -/
theorem digits_add_corrections {x y k : Nat} (hx : x < 100) (hy : y < 100) (hk : k ≤ 1) :
    (digits x + digits y + k + (if 9 < x % 10 + y % 10 + k then 6 else 0) + if 99 < x + y + k then 96 else 0) =
      256 * (if 99 < x + y + k then 1 else 0) + digits ((x + y + k) % 100) := by
  simp only [digits]
  split_ifs <;> omega

/-- DAA on such a sum, with its carries in H and C. -/
theorem daa_of_digits {x y k : Nat} (hx : x < 100) (hy : y < 100) (hk : k ≤ 1) {v : Byte} {h c : Bool}
    (hv : v.toNat = (digits x + digits y + k) % 256) (hh : h = decide (15 < x % 10 + y % 10 + k))
    (hc : c = decide (255 < digits x + digits y + k)) :
    (BitVec.ofNat 8 (v.toNat + daaLow h v + daaHigh c v)).toNat = digits ((x + y + k) % 100) ∧
      (c || decide (255 < v.toNat + daaLow h v + daaHigh c v)) = decide (99 < x + y + k) := by
  have hsum := digits_add_corrections hx hy hk
  have hdigits : digits ((x + y + k) % 100) < 160 := by
    rw [digits]
    omega
  rw [hh, hc, daaLow_of_digits hk hv, daaHigh_of_digits hx hy hk hv, BitVec.toNat_ofNat, Bool.eq_iff_iff, Bool.or_eq_true,
    decide_eq_true_iff, decide_eq_true_iff, decide_eq_true_iff, hv]
  generalize (if 9 < x % 10 + y % 10 + k then 6 else 0) = low at hsum
  split_ifs at hsum ⊢ <;> constructor <;> omega

/-- Settles O23: what ADCA leaves is the sum of the bytes of digits, with its carries in H and C. -/
theorem decimalAddition : Obligations.DecimalAddition := by
  intro x y src s t u hx hy ha hm hadca hdaa
  have hk : s.ccr.c.toNat ≤ 1 := s.ccr.c.toNat_le
  have hax : s.a.toNat = digits x := by
    rw [ha, BitVec.toNat_ofNat, digits]
    omega
  have hmy : (operand8 src s).1.toNat = digits y := by
    rw [hm, BitVec.toNat_ofNat, digits]
    omega
  obtain ⟨-, -, hexec, -⟩ := addBytes src s
  rw [AccFromOperand, hadca] at hexec
  have ht := Host.Outcome.next.inj hexec
  rw [exec_daa] at hdaa
  have hu := Host.Outcome.next.inj hdaa
  have hta : t.a.toNat = (digits x + digits y + s.ccr.c.toNat) % 256 := by
    rw [ht, ← hax, ← hmy]
    exact BitVec.toNat_ofNat _ _
  have hth : t.ccr.h = decide (15 < x % 10 + y % 10 + s.ccr.c.toNat) := by
    have hdigit (z : Nat) : digits z % 16 = z % 10 := by
      rw [digits]
      omega
    rw [ht, ← hdigit x, ← hdigit y, ← hax, ← hmy]
    rfl
  have htc : t.ccr.c = decide (255 < digits x + digits y + s.ccr.c.toNat) := by
    rw [ht, ← hax, ← hmy]
    rfl
  have hdigits (n : Nat) : digits (n % 100) = 16 * (n % 100 / 10) + n % 10 := by
    rw [digits, Nat.mod_mod_of_dvd n (by decide)]
  obtain ⟨hres, hcarry⟩ := daa_of_digits hx hy hk hta hth htc
  rw [hdigits] at hres
  rw [← hu]
  exact ⟨hres, hcarry⟩

/-! ### Branches -/

/-- The target of a branch is two bytes on and the signed displacement (R240). -/
theorem relTarget_eq_ofInt (pc : Word) (rr : Byte) : relTarget pc rr = BitVec.ofInt 16 (pc.toNat + 2 + rr.toInt) := by
  have hpc : BitVec.ofInt 16 (pc.toNat : Int) = pc := by
    rw [BitVec.ofInt_natCast, BitVec.ofNat_toNat, BitVec.setWidth_eq]
  rw [relTarget, BitVec.ofInt_add, BitVec.ofInt_add, hpc]
  rfl

/-- A branch whose test says `taken`. -/
theorem branch_eq (k : Cond) (rr : Byte) (s : State) {taken : Prop} [Decidable taken]
    (h : k.holds s.ccr = true ↔ taken) :
    branch k rr s =
      { s with pc := if taken then BitVec.ofInt 16 (s.pc.toNat + 2 + rr.toInt) else s.pc + 2 } := by
  rw [← if_congr h rfl rfl, branch, ← relTarget_eq_ofInt]
  split <;> rfl

/-- Settles O29: the sixteen tests, each as a statement about the flags. -/
theorem branches : Obligations.Branches := by
  intro rr s go f
  have next (k : Cond) (taken : Prop) [Decidable taken] (h : k.holds f = true ↔ taken) :
      .next (branch k rr s) = go taken := congrArg Host.Outcome.next (branch_eq k rr s h)
  exact ⟨next .ra True (by simp [Cond.holds]), next .rn False (by simp [Cond.holds]),
    next .hi _ (by simp [Cond.holds]), next .ls _ (by simp [Cond.holds]),
    next .cc _ (by simp [Cond.holds]), next .cs _ (by simp [Cond.holds]),
    next .ne _ (by simp [Cond.holds]), next .eq _ (by simp [Cond.holds]),
    next .vc _ (by simp [Cond.holds]), next .vs _ (by simp [Cond.holds]),
    next .pl _ (by simp [Cond.holds]), next .mi _ (by simp [Cond.holds]),
    next .ge _ (by simp [Cond.holds]), next .lt _ (by simp [Cond.holds]),
    next .gt _ (by simp [Cond.holds]), next .le _ (by simp [Cond.holds])⟩

/-! ### A compare, then a branch -/

theorem diff8_carry (cc : Ccr) (a m : Byte) : (diff8 cc a m false).2.c = decide (a.toNat < m.toNat) := rfl

theorem diff8_zero (cc : Ccr) (a m : Byte) : (diff8 cc a m false).2.z = decide (a.toNat = m.toNat) := by
  have hz : (diff8 cc a m false).2.z = decide ((BitVec.ofNat 8 (a.toNat + 512 - m.toNat)).toNat = 0) := rfl
  rw [hz, decide_eq_decide, BitVec.toNat_ofNat]
  omega

/-- N xor V says that the signed difference is negative, whether or not it fits a byte. -/
theorem diff8_signed (cc : Ccr) (a m : Byte) :
    ((diff8 cc a m false).2.n ^^ (diff8 cc a m false).2.v) = decide (a.toInt < m.toInt) := by
  have hn : (diff8 cc a m false).2.n = decide (128 ≤ (BitVec.ofNat 8 (a.toNat + 512 - m.toNat)).toNat) := rfl
  have hv : (diff8 cc a m false).2.v = outside8 (a.toInt - m.toInt - (0 : Nat)) := rfl
  have ha : a.toInt = if 128 ≤ a.toNat then (a.toNat : Int) - 256 else a.toNat := by
    rw [BitVec.toInt_eq_toNat_cond]
    split_ifs <;> omega
  have hm : m.toInt = if 128 ≤ m.toNat then (m.toNat : Int) - 256 else m.toNat := by
    rw [BitVec.toInt_eq_toNat_cond]
    split_ifs <;> omega
  rw [hn, hv, outside8, BitVec.toNat_ofNat, ha, hm, Bool.eq_iff_iff]
  simp only [bne_iff_ne, ne_eq, ← Bool.decide_or, decide_eq_decide, decide_eq_true_iff]
  split_ifs <;> omega

/-- Settles O30: C decides the unsigned order, N xor V the signed one, and Z equality. -/
theorem compareThenBranch : Obligations.CompareThenBranch := by
  intro src s t hexec m
  obtain ⟨-, -, -, -, -, hcmp, -, -⟩ := subtractAndCompareBytes src s
  rw [FlagsFromOperand, hexec] at hcmp
  have hccr : t.ccr = (diff8 s.ccr s.a m false).2 := by
    rw [Host.Outcome.next.inj hcmp]
  have hnat : s.a.toNat = m.toNat ↔ s.a = m := BitVec.toNat_inj
  have hint : s.a.toNat = m.toNat ↔ s.a.toInt = m.toInt := hnat.trans BitVec.toInt_inj.symm
  simp only [Cond.holds, hccr, diff8_carry, diff8_zero, diff8_signed, ← decide_not, ← Bool.decide_or, decide_eq_decide, ne_eq,
    ← hnat]
  refine ⟨?_, ?_, ?_, trivial, trivial, trivial, ?_, trivial, ?_, ?_⟩ <;> omega

/-! ### Jumps and calls -/

theorem callSubroutine_eq (len : Nat) (target : Word) (s : State) :
    callSubroutine len target s =
      { writesOf s (pushedWord (s.pc + BitVec.ofNat 16 len) s) with sp := s.sp - 2, pc := target } := by
  rw [callSubroutine, push16_eq_writesOf]
  rfl

theorem exec_bsr (rr : Byte) (s : State) :
    exec (.bsr rr) s =
      .next { writesOf s (pushedWord (s.pc + 2) s) with
        sp := s.sp - 2, pc := BitVec.ofInt 16 (s.pc.toNat + 2 + rr.toInt) } := by
  have hexec : exec (.bsr rr) s = .next (callSubroutine 2 (relTarget s.pc rr) s) := rfl
  rw [hexec, callSubroutine_eq, relTarget_eq_ofInt]
  rfl

theorem exec_jsr (m : Ea) (s : State) :
    exec (formJsr m) s =
      .next { writesOf s (pushedWord (pcAfter (formJsr m) s) s) with sp := s.sp - 2, pc := m.addr s } := by
  rw [(runsTo_jsr m s).exec_eq, (runsTo_jsr m s).pcAfter_eq, callSubroutine_eq]

theorem exec_rts (s : State) :
    exec .rts s =
      .next { readsOf s (memRead16 (s.sp + 1) s).2 with sp := s.sp + 2, pc := (memRead16 (s.sp + 1) s).1 } := by
  have hexec : exec .rts s = .next ((pull16 s).2.jump (pull16 s).1) := rfl
  rw [hexec, pull16_eq_readsOf]
  rfl

/-- Settles O31: the return address is pushed as a word, before the jump. -/
theorem jumpsAndCalls : Obligations.JumpsAndCalls := fun rr m j s =>
  ⟨(runsTo_jmp j s).exec_eq, ⟨exec_bsr rr s, wordStored_pushedWord (s.pc + 2) s⟩,
    ⟨exec_jsr m s, wordStored_pushedWord (pcAfter (formJsr m) s) s⟩, exec_rts s⟩

/-! ### Pulls after pushes -/

/-- After a push of a byte over a stack in RAM: the pull gives it back, and moves SP back. -/
theorem pullAcc_pushed (r : Acc) {v : Byte} {s t : State} (hwf : s.mem.wf = true) (hram : region s.sp = .ram)
    (hmem : t.mem = (memWrite s.sp v s).mem) (hsp : t.sp = s.sp - 1) :
    pullAcc r t = State.setAcc { t with sp := s.sp, pc := t.pc + 1 } r v := by
  have hback : s.sp - 1 + 1 = s.sp := by ring
  have hread : memRead s.sp t = (v, t) := by
    rw [memRead_ram _ t hram, hmem, memWrite_read_same s.sp v s hwf hram]
  rw [pullAcc_eq, hsp, hback, hread]
  rfl

/-- After a push of a word over a stack in RAM: the pull gives it back, and moves SP back. -/
theorem pull16_pushed {v : Word} {s t : State} (hwf : s.mem.wf = true) (hram : region s.sp = .ram)
    (hram' : region (s.sp - 1) = .ram) (hmem : t.mem = (pushedWord v s).mem) (hsp : t.sp = s.sp - 2) :
    pull16 t = (v, { t with sp := s.sp }) := by
  have hback : s.sp - 2 + 1 = s.sp - 1 := by ring
  have hback' : s.sp - 2 + 2 = s.sp := by ring
  have hnext : s.sp - 1 + 1 = s.sp := by ring
  obtain ⟨-, -, -, hhi, hlo⟩ := wordStored_pushedWord v s
  rw [hnext] at hlo
  have hword : (t.mem.read (s.sp - 1).toNat ++ t.mem.read s.sp.toNat : Word) = v := by
    apply BitVec.eq_of_toNat_eq
    rw [toNat_append_byte, hmem, hhi hwf hram', hlo hwf hram]
    omega
  have hread : memRead16 (s.sp - 1) t = (v, t) := by
    rw [memRead16, memRead_ram _ t hram', hnext, memRead_ram _ t hram]
    exact congrArg (·, t) hword
  rw [pull16_eq_memRead16, hsp, hback, hback', hread]

/-- Settles O32: a pull reads, at the moved SP, what the push before it wrote there. -/
theorem pullsUndoPushes : Obligations.PullsUndoPushes := by
  intro s t hwf hram
  obtain ⟨hpsha, -, hpshb, -, hpshx, -⟩ := pushesAndPulls s
  have hpc : s.pc + 1 + 1 = s.pc + 2 := by ring
  have hrts : exec .rts t = .next ((pull16 t).2.jump (pull16 t).1) := rfl
  refine ⟨fun hexec => ?psha, fun hexec => ?pshb, fun hram' =>
    ⟨fun hexec => ?pshx, fun m hexec => ?jsr, fun rr hexec => ?bsr⟩⟩
  case psha =>
    have ht := Host.Outcome.next.inj (hexec.symm.trans hpsha)
    have hpull := pullAcc_pushed .a (v := s.a) hwf hram ((congrArg State.mem ht).trans rfl)
      ((congrArg State.sp ht).trans rfl)
    have hexec' : exec .pula t = .next (pullAcc .a t) := rfl
    rw [hexec', hpull, ← hpc, ht]
    rfl
  case pshb =>
    have ht := Host.Outcome.next.inj (hexec.symm.trans hpshb)
    have hpull := pullAcc_pushed .b (v := s.b) hwf hram ((congrArg State.mem ht).trans rfl)
      ((congrArg State.sp ht).trans rfl)
    have hexec' : exec .pulb t = .next (pullAcc .b t) := rfl
    rw [hexec', hpull, ← hpc, ht]
    rfl
  case pshx =>
    have ht := Host.Outcome.next.inj (hexec.symm.trans hpshx)
    have hpull := pull16_pushed (v := s.x) hwf hram hram' ((congrArg State.mem ht).trans rfl)
      ((congrArg State.sp ht).trans rfl)
    have hexec' : exec .pulx t = .next (((pull16 t).2.setReg16 .x (pull16 t).1).advance 1) := rfl
    rw [hexec', hpull, ← hpc, ht]
    rfl
  case jsr =>
    have ht := Host.Outcome.next.inj (hexec.symm.trans (exec_jsr m s))
    have hpull := pull16_pushed (v := pcAfter (formJsr m) s) hwf hram hram' ((congrArg State.mem ht).trans rfl)
      ((congrArg State.sp ht).trans rfl)
    rw [hrts, hpull]
    rfl
  case bsr =>
    have ht := Host.Outcome.next.inj (hexec.symm.trans (exec_bsr rr s))
    have hpull := pull16_pushed (v := s.pc + 2) hwf hram hram' ((congrArg State.mem ht).trans rfl)
      ((congrArg State.sp ht).trans rfl)
    rw [hrts, hpull]
    rfl

end Sys2Proof.Proofs
end

section
/-! PROOFS. The flag instructions, SWI, WAI, SLP and RTI (44_system.md, 60_exceptions.md section 2): O33, O35, O36, O37. -/

namespace Sys2Proof.Proofs

open Sys2Proof Sys2Proof.Machine Sys2Proof.Claims

/-- The flags that a byte gives make up its low six bits (R29). -/
theorem ccrByte_ofByte (v : Byte) : (ccrByte (Ccr.ofByte v)).toNat = 192 + v.toNat % 64 := by
  have key : ∀ w : BitVec 8, (ccrByte (Ccr.ofByte w)).toNat = 192 + w.toNat % 64 := by decide
  exact key v

/-- Settles O33: TPA and TAP through the CCR byte. -/
theorem flagInstructions : Obligations.FlagInstructions := by
  intro s
  refine ⟨rfl, rfl, rfl, rfl, rfl, rfl, rfl, ?_, Ccr.ofByte s.a, rfl, ccrByte_ofByte s.a⟩
  rw [← toByte_eq_ccrByte]
  rfl

/-- Settles O35: SWI takes an interrupt from the instruction after it; WAI pushes the same frame. -/
theorem softwareInterruptAndWaits : Obligations.SoftwareInterruptAndWaits := by
  intro s t
  have hswi : exec .swi s = .next (takeInterrupt vecSwi { s with pc := s.pc + 1 }) := rfl
  have hwai : exec .wai s = .next { pushFrame { s with pc := s.pc + 1 } with waitState := .wai } := rfl
  obtain ⟨m, tm, p, e, hframe⟩ := pushFrame_touches { s with pc := s.pc + 1 }
  refine ⟨frameStored_pushFrame { s with pc := s.pc + 1 }, ?_, ?_, rfl⟩
  · rw [hswi, takeInterrupt_eq vecSwi _ (by decide) (by decide)]
    rfl
  · simp only [hwai, t, hframe]
    rfl

/-! ### Return from interrupt -/

/-- A state after reads alone has the stored bytes and the PORT events, so its bus is what `readsOf` takes from it. -/
theorem withBus_eq_readsOf (c s : State) (hmem : s.mem = c.mem) (hports : s.portEvents = c.portEvents) :
    c.withBus s = readsOf c s := by
  rw [State.withBus, hmem, hports]
  rfl

theorem readBytes_mem (n : Nat) (addr : Word) (s : State) : (readBytes n addr s).2.mem = s.mem := by
  induction n generalizing addr s with
  | zero => rfl
  | succ n ih => rw [readBytes_succ, ih, memRead_mem]

theorem readBytes_portEvents (n : Nat) (addr : Word) (s : State) :
    (readBytes n addr s).2.portEvents = s.portEvents := by
  induction n generalizing addr s with
  | zero => rfl
  | succ n ih => rw [readBytes_succ, ih, memRead_portEvents]

/-- The seven reads of a return, as a run of ascending addresses (R280). -/
theorem returnFromInterrupt_readBytes (s : State) :
    ∃ f b a xh xl ph pl : Byte, (readBytes 7 (s.sp + 1) s).1 = [f, b, a, xh, xl, ph, pl] ∧
      Machine.returnFromInterrupt s =
        { readsOf s (readBytes 7 (s.sp + 1) s).2 with
          ccr := Ccr.ofByte f, b := b, a := a, x := xh ++ xl, pc := ph ++ pl, sp := s.sp + 7 } := by
  have e2 : s.sp + 1 + 1 = s.sp + 2 := by ring
  have e3 : s.sp + 2 + 1 = s.sp + 3 := by ring
  have e4 : s.sp + 3 + 1 = s.sp + 4 := by ring
  have e5 : s.sp + 4 + 1 = s.sp + 5 := by ring
  have e6 : s.sp + 5 + 1 = s.sp + 6 := by ring
  have e7 : s.sp + 6 + 1 = s.sp + 7 := by ring
  have hafter := withBus_eq_readsOf s _ (readBytes_mem 7 (s.sp + 1) s) (readBytes_portEvents 7 (s.sp + 1) s)
  refine ⟨_, _, _, _, _, _, _, rfl, ?_⟩
  rw [returnFromInterrupt_eq, ← hafter]
  simp only [readBytes, e2, e3, e4, e5, e6, e7]
  rfl

/-- Settles O36: the CCR from the first byte, the registers from the others. -/
theorem returnFromInterrupt : Obligations.ReturnFromInterrupt := by
  intro s m
  have hexec : exec .rti s = .next (Machine.returnFromInterrupt s) := rfl
  obtain ⟨f, b, a, xh, xl, ph, pl, hread, hreturn⟩ := returnFromInterrupt_readBytes s
  exact ⟨f, b, a, xh, xl, ph, pl, Ccr.ofByte f, hread, ccrByte_ofByte f, by rw [hexec, hreturn]⟩

/-! ### A return after an interrupt -/

theorem ofByte_ccrByte (f : Ccr) : Ccr.ofByte (ccrByte f) = f := by
  have key : ∀ h i n z v c : Bool, Ccr.ofByte (ccrByte { h, i, n, z, v, c }) = { h, i, n, z, v, c } := by decide
  exact key f.h f.i f.n f.z f.v f.c

theorem append_word_bytes (w : Word) : (BitVec.ofNat 8 (w.toNat / 256) ++ BitVec.ofNat 8 w.toNat : Word) = w := by
  apply BitVec.eq_of_toNat_eq
  rw [toNat_append_byte, BitVec.toNat_ofNat, BitVec.toNat_ofNat]
  omega

/-- A return from a frame in RAM reads stored bytes, without a side effect. -/
theorem returnFromInterrupt_ram {t : State} {sp : Word} (hsp : t.sp = sp - 7) (hram : FrameInRam sp) :
    Machine.returnFromInterrupt t =
      { t with
        ccr := Ccr.ofByte (t.mem.read (sp - 6#16).toNat), b := t.mem.read (sp - 5#16).toNat, a := t.mem.read (sp - 4#16).toNat
        x := t.mem.read (sp - 3#16).toNat ++ t.mem.read (sp - 2#16).toNat
        pc := t.mem.read (sp - 1#16).toNat ++ t.mem.read sp.toNat, sp := sp } := by
  have hread (k : Nat) (hk : k < 7) (addr : Word) (haddr : addr = sp - BitVec.ofNat 16 k) :
      memRead addr t = (t.mem.read (sp - BitVec.ofNat 16 k).toNat, t) := by
    rw [haddr, memRead_ram _ t (hram k hk)]
  have h1 := hread 6 (by decide) (t.sp + 1) (by bv_omega)
  have h2 := hread 5 (by decide) (t.sp + 2) (by bv_omega)
  have h3 := hread 4 (by decide) (t.sp + 3) (by bv_omega)
  have h4 := hread 3 (by decide) (t.sp + 4) (by bv_omega)
  have h5 := hread 2 (by decide) (t.sp + 5) (by bv_omega)
  have h6 := hread 1 (by decide) (t.sp + 6) (by bv_omega)
  have hback : t.sp + 7 = sp := by
    rw [hsp]
    ring
  have h7 : memRead (t.sp + 7) t = (t.mem.read sp.toNat, t) := by
    rw [hback, memRead_ram sp t (by simpa using hram 0 (by decide))]
  rw [returnFromInterrupt_eq, h1, h2, h3, h4, h5, h6, h7, hback]
  rfl

/-- A return from the frame of `s` in RAM restores its registers and goes to the pushed address. -/
theorem returnFromInterrupt_frame {ret : Word} {s t frame : State} (hwf : s.mem.wf = true) (hram : FrameInRam s.sp)
    (hframe : FrameStored ret s frame) (hmem : t.mem = frame.mem) (hsp : t.sp = s.sp - 7) :
    Machine.returnFromInterrupt t =
      { t with ccr := s.ccr, b := s.b, a := s.a, x := s.x, pc := ret, sp := s.sp } := by
  obtain ⟨-, hstored, -⟩ := hframe
  have hbyte (k : Nat) (hk : k < 7) (v : Byte) (hv : (frameBytes ret s)[k]? = some v) :
      t.mem.read (s.sp - BitVec.ofNat 16 k).toNat = v := by
    rw [hmem]
    exact Option.some.inj ((hstored hwf k hk (hram k hk)).symm.trans hv)
  have h0 : t.mem.read s.sp.toNat = BitVec.ofNat 8 ret.toNat := by
    simpa using hbyte 0 (by decide) _ rfl
  have h1 := hbyte 1 (by decide) _ rfl
  have h2 := hbyte 2 (by decide) _ rfl
  have h3 := hbyte 3 (by decide) _ rfl
  have h4 := hbyte 4 (by decide) _ rfl
  have h5 := hbyte 5 (by decide) _ rfl
  have h6 := hbyte 6 (by decide) _ rfl
  rw [returnFromInterrupt_ram hsp hram, h0, h1, h2, h3, h4, h5, h6, append_word_bytes, append_word_bytes, ofByte_ccrByte]

/-- Settles O37: the frame that SWI stored is read back, and neither the push nor the pull had a side effect. -/
theorem returnUndoesInterrupt : Obligations.ReturnUndoesInterrupt := by
  intro s t hwf hram hexec
  obtain ⟨hframe, hswi, -⟩ := softwareInterruptAndWaits s
  have ht := Host.Outcome.next.inj (hexec.symm.trans hswi)
  generalize pushFrame { s with pc := s.pc + 1 } = frame at hframe ht
  have hrti : exec .rti t = .next (Machine.returnFromInterrupt t) := rfl
  rw [hrti, returnFromInterrupt_frame hwf hram hframe ((congrArg State.mem ht).trans rfl) ((congrArg State.sp ht).trans rfl)]
  obtain ⟨-, -, hoff⟩ := hframe
  obtain ⟨htimer, hserial, hports⟩ := hoff fun k hk => by simp [hram k hk]
  rw [ht]
  simp only [writesOf, htimer, hserial, hports]

end Sys2Proof.Proofs
end
